-- ==== Sys2Proof/Word.lean ====
section
/-! DEFINITION. The two widths of the port: a 32-bit word (registers, commands) and an 8-bit byte (buffers); 00_scope.md R9. -/

namespace Sys2Proof

/-- A 32-bit word: a register value or a command word (00_scope.md R9). -/
abbrev Word := BitVec 32

/-- An 8-bit byte: a buffer byte, a codeword, an element of GF(256) (00_scope.md R9, 41_rs_encoder.md R150). -/
abbrev Byte := BitVec 8

end Sys2Proof
end

