-- ==== Sys2Proof/Config.lean ====
section
/-! DEFINITION. The implementation parameters of 00_scope.md R7, the address map's bases (20_memory.md R76), and the free
values: what the spec leaves unspecified, as constants without a body, so that nothing can be proved of them. -/

namespace Sys2Proof.Config

/-- GF_POLY, x^8+x^4+x^3+x^2+1, is 0x11D; these are its low 8 bits (00_scope.md R7, 41_rs_encoder.md R150). -/
def gfPolyLow : Byte := 0x1D
/-- GF_ALPHA, the field generator (R7, 41_rs_encoder.md R153). -/
def gfAlpha : Byte := 0x02
/-- RS_FCR, the exponent of the first root of the generator polynomial (R7, 41_rs_encoder.md R154). -/
def rsFcr : Nat := 0
/-- EC_MAX (R7). -/
def ecMax : Nat := 30
/-- RS_CW_MAX (R7). -/
def rsCwMax : Nat := 255
/-- VERSION_MIN (R7). -/
def versionMin : Nat := 1
/-- VERSION_MAX (R7). -/
def versionMax : Nat := 40
/-- NMASK (R7). -/
def nMask : Nat := 8
/-- PEN_N1 (R7, 42_matrix_builder.md R211). -/
def penN1 : Nat := 3
/-- PEN_N2 (R7, 42_matrix_builder.md R212). -/
def penN2 : Nat := 3
/-- PEN_N3 (R7, 42_matrix_builder.md R213). -/
def penN3 : Nat := 40
/-- PEN_N4 (R7, 42_matrix_builder.md R214). -/
def penN4 : Nat := 10
/-- QUIET, the quiet-zone width in modules (R7, 43_png_writer.md R262). -/
def quiet : Nat := 4
/-- SCALE, pixels per module side; its single legal value (R7, 90_conflicts.md C3). -/
def scale : Nat := 1
/-- BIT_DEPTH (R7). -/
def bitDepth : Byte := 8
/-- FILTER_TYPE, on every scanline (R7, 43_png_writer.md R264). -/
def filterType : Byte := 0
/-- STORED_MAX, the largest stored block (R7, 43_png_writer.md R267). -/
def storedMax : Nat := 65535
/-- DBUF_SIZE (R7). -/
def dbufSize : Nat := 4096
/-- EBUF_SIZE (R7). -/
def ebufSize : Nat := 4096
/-- CWBUF_SIZE (R7). -/
def cwbufSize : Nat := 4096
/-- MAT_DIM, the side of the module array (R7, 10_state.md R54). -/
def matDim : Nat := 177
/-- OBUF_SIZE (R7). -/
def obufSize : Nat := 131072
/-- ID_VALUE (R7, 10_state.md R30). -/
def idValue : Word := 0x51525342

/-- Port address of DBUF[0] (20_memory.md R76). -/
def dbufBase : Nat := 0x01000
/-- Port address of EBUF[0] (20_memory.md R76). -/
def ebufBase : Nat := 0x02000
/-- Port address of CWBUF[0] (20_memory.md R76). -/
def cwbufBase : Nat := 0x03000
/-- Port address of MAT[0][0] (20_memory.md R76, R78). -/
def matBase : Nat := 0x10000
/-- Port address of OBUF[0] (20_memory.md R76). -/
def obufBase : Nat := 0x20000

/-- FREE VALUE (log 3): what the byte at a port address holds after the hard reset number `epoch` when nothing has
written it since (10_state.md R61). -/
opaque unwrittenByte (epoch address : Nat) : Byte

/-- FREE VALUE (log 4): the byte the port returns for the `draw`-th read of a buffer while BUSY is 1 (20_memory.md R73). -/
opaque busyByte (draw address : Nat) : Byte

end Sys2Proof.Config
end

