-- ==== Sys2Proof/Machine/State.lean ====
section
/-! DEFINITION. The machine's state as plain data: every register field, the hidden latch and the memories of 10_state.md
R20, and the model's own schedule, response log and free-value counters. -/

namespace Sys2Proof.Machine

/-- Nothing stops QRSB: a failed command records its kind and the block goes on (40_system_commands.md R135,
70_reset_and_hazards.md R368, R369), and a bus error is only a response (20_memory.md R75). So there is no fault (log 12). -/
inductive Fault where
deriving DecidableEq, Repr

/-- Why a meaning gives no next state. -/
inductive Refusal where
  /-- Raised by no arm of `exec`: every command has its meaning (log 12). Safe: it could only stop a run. -/
  | notModelled (mnemonic : String)
deriving DecidableEq, Repr

/-- STATUS.MSTATE, how far the matrix has been built (10_state.md R32). -/
inductive Phase where
  | empty
  | framed
  | placed
  | masked
deriving DecidableEq, Repr

/-- The result kinds (60_exceptions.md R330). FileError, MemoryError, InitError and UnknownError are never raised (R333). -/
inductive ResultKind where
  | success
  | fileError
  | memoryError
  | initError
  | writeError
  | unexpectedInput
  | noSymbolProduced
  | unknownError
deriving DecidableEq, Repr

/-- The five memories in one list of (port address, byte), addresses strictly rising; an unlisted address is one that
nothing has written since hard reset (20_memory.md R76, 10_state.md R61; log 3). -/
abbrev Memory := List Host.Cell

/-- One access of the host through the port (20_memory.md R70). Addresses are 18 bits. -/
inductive Access where
  /-- HostRead32(a) (20_memory.md R71). -/
  | read32 (a : BitVec 18)
  /-- HostWrite32(a, v) (20_memory.md R72). -/
  | write32 (a : BitVec 18) (v : Word)
  /-- HostRead8(a) (20_memory.md R73). -/
  | read8 (a : BitVec 18)
  /-- HostWrite8(a, v) (20_memory.md R74). -/
  | write8 (a : BitVec 18) (v : Byte)
deriving DecidableEq, Repr

/-- The port's answer to one access (20_memory.md R70). -/
inductive Response where
  /-- OK of a write. -/
  | ok
  /-- OK of a 32-bit read, with the value. -/
  | okWord (v : Word)
  /-- OK of an 8-bit read, with the value. -/
  | okByte (v : Byte)
  /-- ERR, a bus error (20_memory.md R75). -/
  | err
deriving DecidableEq, Repr

/-- What moves next: the host, the core (20_memory.md R84), or the reset input (70_reset_and_hazards.md R360); log 1. -/
inductive Event where
  | host (a : Access)
  | core
  | hardReset
deriving DecidableEq, Repr

/-- The state. Each register holds its fields only: reserved bits are not stored, writes to them are ignored and they read 0
(10_state.md R24). ID is hard-wired (R30) and STATUS.ERR follows RESULT (R32), so neither is here. -/
structure State where
  /-- CTRL.COLOR_EN (10_state.md R31). -/
  colorEn : Bool
  /-- STATUS.BUSY (R32): a command is pending. -/
  busy : Bool
  /-- STATUS.DONE (R32). -/
  done : Bool
  /-- STATUS.HAZ (R32), sticky. -/
  haz : Bool
  /-- STATUS.MSTATE (R32). -/
  mstate : Phase
  /-- STATUS.OVALID (R32). -/
  ovalid : Bool
  /-- STATUS.PENV (R32); bit m stands at bit 8+m of STATUS. -/
  penv : BitVec 8
  /-- RESULT (R33). -/
  result : Word
  /-- ERRCMD (R35). -/
  errcmd : Word
  /-- VERSION.V (R36). -/
  version : BitVec 6
  /-- LEVEL.L (R37). -/
  level : BitVec 2
  /-- RS_SRC.SRC (R38). -/
  rsSrc : BitVec 12
  /-- RS_DST.DST (R39). -/
  rsDst : BitVec 12
  /-- COLOR_R (R40). -/
  colorR : Word
  /-- COLOR_G (R40). -/
  colorG : Word
  /-- COLOR_B (R40). -/
  colorB : Word
  /-- MCFG.MVER (R41). -/
  mver : BitVec 6
  /-- MCFG.MLEVEL (R41). -/
  mlevel : BitVec 2
  /-- MCFG.MSIZE (R41). -/
  msize : BitVec 8
  /-- MASK_SEL (R42). -/
  maskSel : BitVec 3
  /-- PEN_SEL (R43). -/
  penSel : Word
  /-- PEN0 to PEN7 (R44). -/
  pen : Vector Word 8
  /-- CWLEN (R45). -/
  cwlen : BitVec 12
  /-- OLEN (R46). -/
  olen : BitVec 18
  /-- PENDING (R50), meaningful exactly when BUSY is 1. -/
  pending : Word
  /-- DBUF, EBUF, CWBUF, MAT, OBUF (R51 to R55). -/
  mem : Memory
  /-- MODEL's own: the hard resets so far; selects the free contents of memory (log 5). -/
  epoch : Nat
  /-- MODEL's own: the unspecified bytes the port has returned so far (log 4). -/
  draws : Nat
  /-- MODEL's own: the events to come (log 1). -/
  inputs : List Event
  /-- MODEL's own: the responses the host has received, newest first (log 9). -/
  responses : List Response
deriving DecidableEq, Repr

/-- The machine after hard reset (10_state.md R60, R61; 70_reset_and_hazards.md R360): every register at the value of the
table under R24, no memory byte written. PENDING is not valid; its 0 is a DESIGN CHOICE (log 6). -/
def State.reset : State where
  colorEn := false
  busy := false
  done := false
  haz := false
  mstate := .empty
  ovalid := false
  penv := 0
  result := 0
  errcmd := 0
  version := 0
  level := 1
  rsSrc := 0
  rsDst := 0
  colorR := 0
  colorG := 0
  colorB := 0
  mver := 0
  mlevel := 0
  msize := 0
  maskSel := 0
  penSel := 0
  pen := Vector.replicate 8 0
  cwlen := 0
  olen := 0
  pending := 0
  mem := []
  epoch := 0
  draws := 0
  inputs := []
  responses := []

end Sys2Proof.Machine
end

