-- ==== Sys2Proof/Machine/Matrix.lean ====
section
/-! DEFINITION. Modules and square arrays of modules, the values the matrix rules compute with (00_scope.md R11). -/

namespace Sys2Proof.Machine

/-- One module of the symbol: `dark`, and `func` for a function or reserved module (00_scope.md R11). -/
structure QrModule where
  dark : Bool
  func : Bool
deriving DecidableEq, Repr

/-- The light data module, which is also what MAT holds outside the symbol (10_state.md R54). -/
def QrModule.blank : QrModule := ⟨false, false⟩

/-- A module as the byte the MAT window shows: bit 0 dark, bit 1 func, bits 7:2 zero (20_memory.md R78). -/
def QrModule.toByte (q : QrModule) : Byte := 0#6 ++ BitVec.ofBool q.func ++ BitVec.ofBool q.dark

/-- The module two bits of a byte stand for (20_memory.md R78). -/
def QrModule.ofByte (b : Byte) : QrModule := ⟨b.getLsbD 0, b.getLsbD 1⟩

/-- A square array of modules, a list of rows from the top, each row from the left (00_scope.md R11). -/
abbrev Matrix := List (List QrModule)

/-- Module (x, y); the blank module where the array has none. -/
def matGet (m : Matrix) (x y : Nat) : QrModule := (m.getD y []).getD x QrModule.blank

/-- The `side` by `side` array whose module (x, y) is `f x y`. -/
def matTabulate (side : Nat) (f : Nat → Nat → QrModule) : Matrix :=
  (List.range side).map fun y => (List.range side).map fun x => f x y

/-- `M[y][x].dark <- b` (00_scope.md R12); no effect where the array has no module. -/
def matSetDark (m : Matrix) (x y : Nat) (b : Bool) : Matrix :=
  m.modify y fun row => row.modify x fun q => { q with dark := b }

end Sys2Proof.Machine
end

