-- ==== Sys2Proof/Machine/Tables.lean ====
section
/-! DEFINITION. The constant tables of 45_rom_tables.md: codeword totals (R310), block structure (R311), alignment
coordinates (R312). They are constants of the block, not state. Tables R313 to R316 are computed from their rules. -/

namespace Sys2Proof.Machine

/-- `rawbits(V)`, the number of data modules of Frame(V) (45_rom_tables.md R310). -/
def rawBits (v : Nat) : Nat :=
  let r := (16 * v + 128) * v + 64
  let na := v / 7 + 2
  let r := if 2 ≤ v then r - ((25 * na - 10) * na - 55) else r
  if 7 ≤ v then r - 36 else r

/-- T(V), codewords per symbol (45_rom_tables.md R310). -/
def totalCodewords (v : Nat) : Nat := rawBits v / 8

/-- rembits(V), remainder bits (45_rom_tables.md R310, 42_matrix_builder.md R207). -/
def remainderBits (v : Nat) : Nat := rawBits v % 8

/-- One entry of BLKTAB: E, b1 and b2 (45_rom_tables.md R311). -/
structure BlockEntry where
  ec : Nat
  short : Nat
  long : Nat
deriving DecidableEq, Repr

/-- BLKTAB, Versions 1 to 10, each Low, Medium, High, Max (45_rom_tables.md R311). -/
def blockRows1To10 : List (List BlockEntry) :=
  [ [⟨7, 1, 0⟩, ⟨10, 1, 0⟩, ⟨13, 1, 0⟩, ⟨17, 1, 0⟩],
    [⟨10, 1, 0⟩, ⟨16, 1, 0⟩, ⟨22, 1, 0⟩, ⟨28, 1, 0⟩],
    [⟨15, 1, 0⟩, ⟨26, 1, 0⟩, ⟨36, 2, 0⟩, ⟨44, 2, 0⟩],
    [⟨20, 1, 0⟩, ⟨36, 2, 0⟩, ⟨52, 2, 0⟩, ⟨64, 4, 0⟩],
    [⟨26, 1, 0⟩, ⟨48, 2, 0⟩, ⟨72, 2, 2⟩, ⟨88, 2, 2⟩],
    [⟨36, 2, 0⟩, ⟨64, 4, 0⟩, ⟨96, 4, 0⟩, ⟨112, 4, 0⟩],
    [⟨40, 2, 0⟩, ⟨72, 4, 0⟩, ⟨108, 2, 4⟩, ⟨130, 4, 1⟩],
    [⟨48, 2, 0⟩, ⟨88, 2, 2⟩, ⟨132, 4, 2⟩, ⟨156, 4, 2⟩],
    [⟨60, 2, 0⟩, ⟨110, 3, 2⟩, ⟨160, 4, 4⟩, ⟨192, 4, 4⟩],
    [⟨72, 2, 2⟩, ⟨130, 4, 1⟩, ⟨192, 6, 2⟩, ⟨224, 6, 2⟩] ]

/-- BLKTAB, Versions 11 to 20, each Low, Medium, High, Max (45_rom_tables.md R311). -/
def blockRows11To20 : List (List BlockEntry) :=
  [ [⟨80, 4, 0⟩, ⟨150, 1, 4⟩, ⟨224, 4, 4⟩, ⟨264, 3, 8⟩],
    [⟨96, 2, 2⟩, ⟨176, 6, 2⟩, ⟨260, 4, 6⟩, ⟨308, 7, 4⟩],
    [⟨104, 4, 0⟩, ⟨198, 8, 1⟩, ⟨288, 8, 4⟩, ⟨352, 12, 4⟩],
    [⟨120, 3, 1⟩, ⟨216, 4, 5⟩, ⟨320, 11, 5⟩, ⟨384, 11, 5⟩],
    [⟨132, 5, 1⟩, ⟨240, 5, 5⟩, ⟨360, 5, 7⟩, ⟨432, 11, 7⟩],
    [⟨144, 5, 1⟩, ⟨280, 7, 3⟩, ⟨408, 15, 2⟩, ⟨480, 3, 13⟩],
    [⟨168, 1, 5⟩, ⟨308, 10, 1⟩, ⟨448, 1, 15⟩, ⟨532, 2, 17⟩],
    [⟨180, 5, 1⟩, ⟨338, 9, 4⟩, ⟨504, 17, 1⟩, ⟨588, 2, 19⟩],
    [⟨196, 3, 4⟩, ⟨364, 3, 11⟩, ⟨546, 17, 4⟩, ⟨650, 9, 16⟩],
    [⟨224, 3, 5⟩, ⟨416, 3, 13⟩, ⟨600, 15, 5⟩, ⟨700, 15, 10⟩] ]

/-- BLKTAB, Versions 21 to 30, each Low, Medium, High, Max (45_rom_tables.md R311). -/
def blockRows21To30 : List (List BlockEntry) :=
  [ [⟨224, 4, 4⟩, ⟨442, 17, 0⟩, ⟨644, 17, 6⟩, ⟨750, 19, 6⟩],
    [⟨252, 2, 7⟩, ⟨476, 17, 0⟩, ⟨690, 7, 16⟩, ⟨816, 34, 0⟩],
    [⟨270, 4, 5⟩, ⟨504, 4, 14⟩, ⟨750, 11, 14⟩, ⟨900, 16, 14⟩],
    [⟨300, 6, 4⟩, ⟨560, 6, 14⟩, ⟨810, 11, 16⟩, ⟨960, 30, 2⟩],
    [⟨312, 8, 4⟩, ⟨588, 8, 13⟩, ⟨870, 7, 22⟩, ⟨1050, 22, 13⟩],
    [⟨336, 10, 2⟩, ⟨644, 19, 4⟩, ⟨952, 28, 6⟩, ⟨1110, 33, 4⟩],
    [⟨360, 8, 4⟩, ⟨700, 22, 3⟩, ⟨1020, 8, 26⟩, ⟨1200, 12, 28⟩],
    [⟨390, 3, 10⟩, ⟨728, 3, 23⟩, ⟨1050, 4, 31⟩, ⟨1260, 11, 31⟩],
    [⟨420, 7, 7⟩, ⟨784, 21, 7⟩, ⟨1140, 1, 37⟩, ⟨1350, 19, 26⟩],
    [⟨450, 5, 10⟩, ⟨812, 19, 10⟩, ⟨1200, 15, 25⟩, ⟨1440, 23, 25⟩] ]

/-- BLKTAB, Versions 31 to 40, each Low, Medium, High, Max (45_rom_tables.md R311). -/
def blockRows31To40 : List (List BlockEntry) :=
  [ [⟨480, 13, 3⟩, ⟨868, 2, 29⟩, ⟨1290, 42, 1⟩, ⟨1530, 23, 28⟩],
    [⟨510, 17, 0⟩, ⟨924, 10, 23⟩, ⟨1350, 10, 35⟩, ⟨1620, 19, 35⟩],
    [⟨540, 17, 1⟩, ⟨980, 14, 21⟩, ⟨1440, 29, 19⟩, ⟨1710, 11, 46⟩],
    [⟨570, 13, 6⟩, ⟨1036, 14, 23⟩, ⟨1530, 44, 7⟩, ⟨1800, 59, 1⟩],
    [⟨570, 12, 7⟩, ⟨1064, 12, 26⟩, ⟨1590, 39, 14⟩, ⟨1890, 22, 41⟩],
    [⟨600, 6, 14⟩, ⟨1120, 6, 34⟩, ⟨1680, 46, 10⟩, ⟨1980, 2, 64⟩],
    [⟨630, 17, 4⟩, ⟨1204, 29, 14⟩, ⟨1770, 49, 10⟩, ⟨2100, 24, 46⟩],
    [⟨660, 4, 18⟩, ⟨1260, 13, 32⟩, ⟨1860, 48, 14⟩, ⟨2220, 42, 32⟩],
    [⟨720, 20, 4⟩, ⟨1316, 40, 7⟩, ⟨1950, 43, 22⟩, ⟨2310, 10, 67⟩],
    [⟨750, 19, 6⟩, ⟨1372, 18, 31⟩, ⟨2040, 34, 34⟩, ⟨2430, 20, 61⟩] ]

/-- BLKTAB by Version (from 1) and level (45_rom_tables.md R311). -/
def blockTable : List (List BlockEntry) :=
  blockRows1To10 ++ blockRows11To20 ++ blockRows21To30 ++ blockRows31To40

/-- The entry of Version `v` and level `l`; zeros outside the table, where no legal Version leads (log 10). -/
def blockEntry (v l : Nat) : BlockEntry :=
  if v = 0 then ⟨0, 0, 0⟩ else (blockTable.getD (v - 1) []).getD l ⟨0, 0, 0⟩

/-- ALIGN, Versions 1 to 10 (45_rom_tables.md R312). -/
def alignRows1To10 : List (List Nat) :=
  [ [],
    [6, 18],
    [6, 22],
    [6, 26],
    [6, 30],
    [6, 34],
    [6, 22, 38],
    [6, 24, 42],
    [6, 26, 46],
    [6, 28, 50] ]

/-- ALIGN, Versions 11 to 20 (45_rom_tables.md R312). -/
def alignRows11To20 : List (List Nat) :=
  [ [6, 30, 54],
    [6, 32, 58],
    [6, 34, 62],
    [6, 26, 46, 66],
    [6, 26, 48, 70],
    [6, 26, 50, 74],
    [6, 30, 54, 78],
    [6, 30, 56, 82],
    [6, 30, 58, 86],
    [6, 34, 62, 90] ]

/-- ALIGN, Versions 21 to 30 (45_rom_tables.md R312). -/
def alignRows21To30 : List (List Nat) :=
  [ [6, 28, 50, 72, 94],
    [6, 26, 50, 74, 98],
    [6, 30, 54, 78, 102],
    [6, 28, 54, 80, 106],
    [6, 32, 58, 84, 110],
    [6, 30, 58, 86, 114],
    [6, 34, 62, 90, 118],
    [6, 26, 50, 74, 98, 122],
    [6, 30, 54, 78, 102, 126],
    [6, 26, 52, 78, 104, 130] ]

/-- ALIGN, Versions 31 to 40 (45_rom_tables.md R312). -/
def alignRows31To40 : List (List Nat) :=
  [ [6, 30, 56, 82, 108, 134],
    [6, 34, 60, 86, 112, 138],
    [6, 30, 58, 86, 114, 142],
    [6, 34, 62, 90, 118, 146],
    [6, 30, 54, 78, 102, 126, 150],
    [6, 24, 50, 76, 102, 128, 154],
    [6, 28, 54, 80, 106, 132, 158],
    [6, 32, 58, 84, 110, 136, 162],
    [6, 26, 54, 82, 110, 138, 166],
    [6, 30, 58, 86, 114, 142, 170] ]

/-- ALIGN by Version, from 1 (45_rom_tables.md R312). -/
def alignTable : List (List Nat) := alignRows1To10 ++ alignRows11To20 ++ alignRows21To30 ++ alignRows31To40

/-- A(V), the coordinates of the alignment pattern centres (45_rom_tables.md R312); empty outside the table. -/
def alignCoords (v : Nat) : List Nat := if v = 0 then [] else alignTable.getD (v - 1) []

end Sys2Proof.Machine
end

