-- ==== Sys2Proof/Machine/Frame.lean ====
section
/-! DEFINITION. The frame of a Version: function patterns, reserved areas, the version and format words
(42_matrix_builder.md R190 to R202). -/

namespace Sys2Proof.Machine

/-- S = 4·V + 17 (42_matrix_builder.md R190). -/
def side (v : Nat) : Nat := 4 * v + 17

/-- |a - b|. -/
def absDiff (a b : Nat) : Nat := (a - b) + (b - a)

/-- max(|x - cx|, |y - cy|), the distance of the finder and alignment rules (42_matrix_builder.md R191, R194). -/
def ringDist (x y cx cy : Nat) : Nat := max (absDiff x cx) (absDiff y cy)

/-! ## Version and format words -/

/-- `rem <- (rem << 1) ^ ((rem >> top) * poly)`, once (42_matrix_builder.md R200, R201). -/
def bchPass (top poly rem : Nat) : Nat := (rem <<< 1) ^^^ ((rem >>> top) * poly)

/-- The remainder loop, `count` passes (42_matrix_builder.md R200, R201). -/
def bchRemainder (top poly : Nat) : Nat → Nat → Nat
  | 0, rem => rem
  | count + 1, rem => bchRemainder top poly count (bchPass top poly rem)

/-- `VersionWord(V)`, 18 bits (42_matrix_builder.md R200). -/
def versionWord (v : Nat) : BitVec 18 := BitVec.ofNat 18 ((v <<< 12) ||| bchRemainder 11 0x1F25 12 v)

/-- `lb(L)`, the standard's two-bit level code (42_matrix_builder.md R201). -/
def levelBits : Nat → Nat
  | 0 => 1
  | 1 => 0
  | 2 => 3
  | _ => 2

/-- `FormatWord(L, m)`, 15 bits (42_matrix_builder.md R201). -/
def formatWord (l m : Nat) : BitVec 15 :=
  let data := (levelBits l <<< 3) ||| m
  BitVec.ofNat 15 (((data <<< 10) ||| bchRemainder 9 0x537 10 data) ^^^ 0x5412)

/-! ## Positions -/

/-- Copy A of the format word: where bit i, from 0 to 14, goes (42_matrix_builder.md R196). -/
def formatCopyA : List (Nat × Nat) :=
  [(8, 0), (8, 1), (8, 2), (8, 3), (8, 4), (8, 5), (8, 7), (8, 8), (7, 8), (5, 8), (4, 8), (3, 8), (2, 8), (1, 8), (0, 8)]

/-- Copy B of the format word in a symbol of side `s`: where bit i, from 0 to 14, goes (42_matrix_builder.md R196). -/
def formatCopyB (s : Nat) : List (Nat × Nat) :=
  [(s - 1, 8), (s - 2, 8), (s - 3, 8), (s - 4, 8), (s - 5, 8), (s - 6, 8), (s - 7, 8), (s - 8, 8),
   (8, s - 7), (8, s - 6), (8, s - 5), (8, s - 4), (8, s - 3), (8, s - 2), (8, s - 1)]

/-- The 30 format modules, each with the bit of the format word it takes (42_matrix_builder.md R196). -/
def formatCells (s : Nat) : List ((Nat × Nat) × Nat) := formatCopyA.zipIdx ++ (formatCopyB s).zipIdx

/-- (x, y) is a format module (42_matrix_builder.md R196). -/
def isFormat (s x y : Nat) : Bool := (formatCells s).any fun c => c.1 == (x, y)

/-- The bit of the version word at (x, y), in either copy (42_matrix_builder.md R197); none outside the version area. -/
def versionBit (v x y : Nat) : Option Nat :=
  let s := side v
  if v < 7 then none
  else if x ≤ 5 ∧ s - 11 ≤ y ∧ y ≤ s - 9 then some (3 * x + (y - (s - 11)))
  else if y ≤ 5 ∧ s - 11 ≤ x ∧ x ≤ s - 9 then some (3 * y + (x - (s - 11)))
  else none

/-- The distance of (x, y) from the centre of the finder zone it lies in (42_matrix_builder.md R191); none outside the
three zones. -/
def finderDist (s x y : Nat) : Option Nat :=
  if x ≤ 7 ∧ y ≤ 7 then some (ringDist x y 3 3)
  else if s - 8 ≤ x ∧ y ≤ 7 then some (ringDist x y (s - 4) 3)
  else if x ≤ 7 ∧ s - 8 ≤ y then some (ringDist x y 3 (s - 4))
  else none

/-- The alignment pattern centres: all pairs of coordinates but the three on a finder pattern (42_matrix_builder.md R194). -/
def alignCentres (v : Nat) : List (Nat × Nat) :=
  let s := side v
  ((alignCoords v).flatMap fun cx => (alignCoords v).map fun cy => (cx, cy)).filter fun c =>
    c != (6, 6) && c != (6, s - 7) && c != (s - 7, 6)

/-- The distance of (x, y) from the alignment centre within whose 5×5 pattern it lies (42_matrix_builder.md R194). -/
def alignDist (v x y : Nat) : Option Nat :=
  ((alignCentres v).map fun c => ringDist x y c.1 c.2).find? fun d => decide (d ≤ 2)

/-! ## Classification -/

/-- Module (x, y) of Frame(V): the first clause of 42_matrix_builder.md R198 that applies. -/
def frameModule (v x y : Nat) : QrModule :=
  let s := side v
  match finderDist s x y with
  | some d => ⟨d == 0 || d == 1 || d == 3, true⟩
  | none =>
    match alignDist v x y with
    | some d => ⟨d == 0 || d == 2, true⟩
    | none =>
      if x = 6 ∨ y = 6 then ⟨(x + y) % 2 == 0, true⟩
      else if x = 8 ∧ y = s - 8 then ⟨true, true⟩
      else if isFormat s x y then ⟨false, true⟩
      else
        match versionBit v x y with
        | some i => ⟨(versionWord v).getLsbD i, true⟩
        | none => QrModule.blank

/-- What MAT_FRAME puts at (x, y) of the whole array: the frame inside the symbol, blank modules outside
(42_matrix_builder.md R220). -/
def framedModule (v x y : Nat) : QrModule :=
  if x < side v ∧ y < side v then frameModule v x y else QrModule.blank

/-- `WriteFormat(M, w)`: both positions of each bit of the format word take it (42_matrix_builder.md R202). -/
def writeFormat (m : Matrix) (s : Nat) (w : BitVec 15) : Matrix :=
  (formatCells s).foldl (fun acc c => matSetDark acc c.1.1 c.1.2 (w.getLsbD c.2)) m

end Sys2Proof.Machine
end

