-- ==== Sys2Proof/Machine/Mask.lean ====
section
/-! DEFINITION. The eight masks, the four-rule penalty and the selection (42_matrix_builder.md R209 to R216). -/

namespace Sys2Proof.Machine

/-- `MaskBit(m, x, y)` (42_matrix_builder.md R209). -/
def maskBit : Nat → Nat → Nat → Bool
  | 0, x, y => (x + y) % 2 == 0
  | 1, _, y => y % 2 == 0
  | 2, x, _ => x % 3 == 0
  | 3, x, y => (x + y) % 3 == 0
  | 4, x, y => (y / 2 + x / 3) % 2 == 0
  | 5, x, y => (x * y) % 2 + (x * y) % 3 == 0
  | 6, x, y => ((x * y) % 2 + (x * y) % 3) % 2 == 0
  | _, x, y => ((x + y) % 2 + (x * y) % 3) % 2 == 0

/-- A module under mask `k` at (x, y): a data module is inverted where the mask bit is true, a function module kept
(42_matrix_builder.md R210). -/
def maskModule (k x y : Nat) (q : QrModule) : QrModule :=
  if q.func then q else { q with dark := q.dark ^^ maskBit k x y }

/-- `Masked(M, L, m)` of a matrix of side `s`: the data modules masked, then the format word written
(42_matrix_builder.md R210). -/
def masked (m : Matrix) (s l k : Nat) : Matrix :=
  writeFormat (matTabulate s fun x y => maskModule k x y (matGet m x y)) s (formatWord l k)

/-! ## The penalty -/

/-- Row y of the `dark` bits, left to right. -/
def darkRow (m : Matrix) (s y : Nat) : List Bool := (List.range s).map fun x => (matGet m x y).dark

/-- Column x of the `dark` bits, top to bottom. -/
def darkColumn (m : Matrix) (s x : Nat) : List Bool := (List.range s).map fun y => (matGet m x y).dark

/-- The 2·S lines: the rows, then the columns (42_matrix_builder.md, section 5). -/
def lines (m : Matrix) (s : Nat) : List (List Bool) :=
  (List.range s).map (darkRow m s) ++ (List.range s).map (darkColumn m s)

/-- The lengths of the maximal runs, with a run of `len` values `cur` open (42_matrix_builder.md R211). -/
def runsFrom (cur : Bool) (len : Nat) : List Bool → List Nat
  | [] => [len]
  | c :: rest => if c = cur then runsFrom cur (len + 1) rest else len :: runsFrom c 1 rest

/-- The lengths of the maximal runs of equal consecutive values of a line (42_matrix_builder.md R211). -/
def runLengths : List Bool → List Nat
  | [] => []
  | c :: rest => runsFrom c 1 rest

/-- What a run of length r adds to N1 (42_matrix_builder.md R211). -/
def runScore (r : Nat) : Nat := if 5 ≤ r then Config.penN1 + (r - 5) else 0

/-- N1 (42_matrix_builder.md R211). -/
def penaltyRuns (m : Matrix) (s : Nat) : Nat :=
  ((lines m s).map fun line => ((runLengths line).map runScore).sum).sum

/-- The 2×2 block with upper left module (x, y) has one colour (42_matrix_builder.md R212). -/
def blockUniform (m : Matrix) (x y : Nat) : Bool :=
  (matGet m (x + 1) y).dark == (matGet m x y).dark && (matGet m x (y + 1)).dark == (matGet m x y).dark &&
    (matGet m (x + 1) (y + 1)).dark == (matGet m x y).dark

/-- N2 (42_matrix_builder.md R212). -/
def penaltyBlocks (m : Matrix) (s : Nat) : Nat :=
  ((List.range (s - 1)).map fun y =>
    Config.penN2 * (List.range (s - 1)).countP fun x => blockUniform m x y).sum

/-- P1 = 1,0,1,1,1,0,1,0,0,0,0 (42_matrix_builder.md R213). -/
def finderPattern1 : List Bool :=
  [true, false, true, true, true, false, true, false, false, false, false]

/-- P2 = 0,0,0,0,1,0,1,1,1,0,1 (42_matrix_builder.md R213). -/
def finderPattern2 : List Bool :=
  [false, false, false, false, true, false, true, true, true, false, true]

/-- `c[i .. i+10]` equals P1 or P2 (42_matrix_builder.md R213). -/
def finderLikeAt (line : List Bool) (i : Nat) : Bool :=
  (line.drop i).take 11 == finderPattern1 || (line.drop i).take 11 == finderPattern2

/-- N3: the windows 0 ≤ i ≤ S-11 of every line (42_matrix_builder.md R213). -/
def penaltyFinderLike (m : Matrix) (s : Nat) : Nat :=
  ((lines m s).map fun line => Config.penN3 * (List.range (s - 10)).countP (finderLikeAt line)).sum

/-- dk, the number of dark modules (42_matrix_builder.md R214). -/
def darkCount (m : Matrix) (s : Nat) : Nat :=
  ((List.range s).map fun y => (darkRow m s y).countP fun b => b).sum

/-- N4 (42_matrix_builder.md R214). -/
def penaltyBalance (m : Matrix) (s : Nat) : Nat :=
  Config.penN4 * (absDiff (20 * darkCount m s) (10 * (s * s)) / (s * s))

/-- `Penalty(M)` (42_matrix_builder.md R215). -/
def penalty (m : Matrix) (s : Nat) : Nat :=
  penaltyRuns m s + penaltyBlocks m s + penaltyFinderLike m s + penaltyBalance m s

/-- The selected mask: the smallest m from 0 to 7 with p[m] = min(p[0..7]) (42_matrix_builder.md R216). -/
def selectMask (p : Nat → Nat) : Nat :=
  (List.range Config.nMask).foldl (fun best m => if p m < p best then m else best) 0

end Sys2Proof.Machine
end

