-- ==== Sys2Proof/Syntax.lean ====
section
/-! DEFINITION. The eleven commands of spec/opcode_table.json (30_encoding.md R105), one constructor per row. -/

namespace Sys2Proof

/-- A command. The operand fields are unsigned counts and an index (30_encoding.md R102 to R104); their ranges are
`Instr.wellFormed`'s. Every other operand comes from a register (R104). -/
inductive Instr where
  /-- NOP (40_system_commands.md R137). -/
  | nop
  /-- CLEAR (40_system_commands.md R138). -/
  | clear
  /-- RESET, the soft reset (40_system_commands.md R139). -/
  | reset
  /-- RS_ENCODE: `n` EC codewords of a block of `k` data codewords (41_rs_encoder.md R165). -/
  | rsEncode (n k : Nat)
  /-- ECC_SYMBOL (41_rs_encoder.md R166). -/
  | eccSymbol
  /-- MAT_FRAME (42_matrix_builder.md R220). -/
  | matFrame
  /-- MAT_PLACE (42_matrix_builder.md R221). -/
  | matPlace
  /-- MAT_EVAL of mask `m` (42_matrix_builder.md R222). -/
  | matEval (m : Nat)
  /-- MAT_MASK of mask `m` (42_matrix_builder.md R223). -/
  | matMask (m : Nat)
  /-- MAT_BUILD (42_matrix_builder.md R224). -/
  | matBuild
  /-- PNG_WRITE (43_png_writer.md R276). -/
  | pngWrite
deriving DecidableEq, Repr

/-- Why a word is illegal: the two clauses of 30_encoding.md R107. -/
inductive DecodeError where
  /-- Bits 7:0 are not one of the eleven opcodes. -/
  | unassignedOp
  /-- Bits 7:0 are an opcode, and a bit its format reserves is 1. -/
  | reservedBits
deriving DecidableEq, Repr

end Sys2Proof
end

