-- ==== Sys2Proof/WellFormed.lean ====
section
/-! DEFINITION. Which commands a command word can spell: the operand fields fit their widths (30_encoding.md R102, R103). -/

namespace Sys2Proof

/-- `n` fits 5 bits and `k` 8 bits (30_encoding.md R103), `m` fits 3 bits (R102). The values RS_ENCODE itself refuses
(n = 0, n = 31, k = 0, k + n > 255) are well formed: they decode and fail its operand check. -/
def Instr.wellFormed : Instr → Bool
  | .nop => true
  | .clear => true
  | .reset => true
  | .rsEncode n k => decide (n < 32) && decide (k < 256)
  | .eccSymbol => true
  | .matFrame => true
  | .matPlace => true
  | .matEval m => decide (m < 8)
  | .matMask m => decide (m < 8)
  | .matBuild => true
  | .pngWrite => true

end Sys2Proof
end

