-- ==== Sys2Proof/Decode.lean ====
section
/-! DEFINITION. The decoder and the encoder of command words (30_encoding.md R100 to R107). -/

namespace Sys2Proof

/-- One row of the opcode map (30_encoding.md R105): a word is the command when `word &&& mask = pattern`, and `read`
takes its operand fields out. -/
structure OpcodeRow where
  pattern : Word
  mask : Word
  read : Word → Instr

/-- Field `n` of format K, bits 12:8 (30_encoding.md R103). -/
def fieldN (w : Word) : Nat := (w.extractLsb' 8 5).toNat

/-- Field `k` of format K, bits 23:16 (30_encoding.md R103). -/
def fieldK (w : Word) : Nat := (w.extractLsb' 16 8).toNat

/-- Field `m` of format M, bits 10:8 (30_encoding.md R102). -/
def fieldM (w : Word) : Nat := (w.extractLsb' 8 3).toNat

/-- The opcode map, 30_encoding.md R105, in its order. -/
def opcodeTable : List OpcodeRow :=
  [ ⟨0x00000000, 0xFFFFFFFF, fun _ => .nop⟩,
    ⟨0x00000001, 0xFFFFFFFF, fun _ => .clear⟩,
    ⟨0x00000002, 0xFFFFFFFF, fun _ => .reset⟩,
    ⟨0x00000010, 0xFF00E0FF, fun w => .rsEncode (fieldN w) (fieldK w)⟩,
    ⟨0x00000011, 0xFFFFFFFF, fun _ => .eccSymbol⟩,
    ⟨0x00000020, 0xFFFFFFFF, fun _ => .matFrame⟩,
    ⟨0x00000021, 0xFFFFFFFF, fun _ => .matPlace⟩,
    ⟨0x00000022, 0xFFFFF8FF, fun w => .matEval (fieldM w)⟩,
    ⟨0x00000023, 0xFFFFF8FF, fun w => .matMask (fieldM w)⟩,
    ⟨0x00000024, 0xFFFFFFFF, fun _ => .matBuild⟩,
    ⟨0x00000030, 0xFFFFFFFF, fun _ => .pngWrite⟩ ]

/-- Which clause of 30_encoding.md R107 makes a word that matches no row illegal. -/
def illegalReason (w : Word) : DecodeError :=
  if opcodeTable.any (fun r => w.setWidth 8 == r.pattern.setWidth 8) then .reservedBits else .unassignedOp

/-- `Decode(w)`, total on all words: the first row that matches, or why none does (30_encoding.md R106, R107). -/
def decode (w : Word) : Except DecodeError Instr :=
  match opcodeTable.find? (fun r => w &&& r.mask == r.pattern) with
  | some r => .ok (r.read w)
  | none => .error (illegalReason w)

/-- The word of a command (30_encoding.md R110). -/
def encode : Instr → Word
  | .nop => 0x00000000
  | .clear => 0x00000001
  | .reset => 0x00000002
  | .rsEncode n k => BitVec.ofNat 32 (0x10 + 256 * n + 65536 * k)
  | .eccSymbol => 0x00000011
  | .matFrame => 0x00000020
  | .matPlace => 0x00000021
  | .matEval m => BitVec.ofNat 32 (0x22 + 256 * m)
  | .matMask m => BitVec.ofNat 32 (0x23 + 256 * m)
  | .matBuild => 0x00000024
  | .pngWrite => 0x00000030

/-- The command word whose low `nbits` bits are those of `w` and whose other bits are 0 (log 15). A command is one
32-bit word given by value (30_encoding.md R100), so it has no byte order. -/
def tableWord (nbits w : Nat) : Word := BitVec.ofNat 32 (w % 2 ^ nbits)

/-- What the decoder reads from a row of spec/opcode_table.json; every command has 32 bits (30_encoding.md R109). -/
def decodeTableWord (nbits w : Nat) : Option Instr :=
  if nbits ≤ 32 then (decode (tableWord nbits w)).toOption else none

end Sys2Proof
end

