-- ==== Sys2Proof/Machine/Ops.lean ====
section
/-! DEFINITION. The shared operations over the state: memory, failure (the block's exception entry) and its return, the
command life cycle, reset, and reading and writing the matrix (10_state.md, 20_memory.md, 40_system_commands.md). -/

namespace Sys2Proof.Machine

/-! ## Memory -/

/-- The byte last written at a port address, none if nothing has been written there since hard reset. -/
def Memory.get? : Memory → Nat → Option Byte
  | [], _ => none
  | (k, b) :: rest, a => if k = a then some b else Memory.get? rest a

/-- The cells that hold `bs` from address `base` up. -/
def cellsFrom : Nat → List Byte → Memory
  | _, [] => []
  | base, b :: bs => (base, b) :: cellsFrom (base + 1) bs

/-- Two lists of cells as one, the order within each kept: before each new cell, the old cells of lower address. -/
def Memory.merge : Memory → Memory → Memory
  | [], old => old
  | c :: new, old =>
    old.takeWhile (fun d => decide (d.1 < c.1)) ++
      c :: Memory.merge new (old.dropWhile (fun d => decide (d.1 < c.1)))

/-- Replace what the addresses in `inside` hold by the cells `new`; every other address keeps what it held. -/
def Memory.overwrite (inside : Nat → Bool) (new m : Memory) : Memory :=
  Memory.merge new (m.filter fun c => !inside c.1)

/-- The address lies in the `count` addresses from `base` up. -/
def inRange (base count a : Nat) : Bool := decide (base ≤ a) && decide (a < base + count)

/-- Write the bytes `bs` at `base`, `base + 1`, …; every other byte stays. -/
def Memory.writeBytes (m : Memory) (base : Nat) (bs : List Byte) : Memory :=
  Memory.overwrite (inRange base bs.length) (cellsFrom base bs) m

/-- The canonical form: addresses strictly rising. An unlisted address holds no written value, which no byte equals, so no
entry can equal what an unlisted address holds (log 3). -/
abbrev Memory.wf (m : Memory) : Prop := m.Pairwise (fun c d => c.1 < d.1)

/-- The byte at a port address: the one last written, or the free value of an address nothing has written since hard
reset (10_state.md R61; log 3). -/
def State.byteAt (s : State) (a : Nat) : Byte :=
  match s.mem.get? a with
  | some b => b
  | none => Config.unwrittenByte s.epoch a

/-- `count` bytes from port address `base` up. -/
def State.bytesAt (s : State) (base count : Nat) : List Byte :=
  (List.range count).map fun i => s.byteAt (base + i)

/-- Write bytes into memory; no register changes. -/
def storeBytes (base : Nat) (bs : List Byte) (s : State) : State :=
  { s with mem := s.mem.writeBytes base bs }

/-! ## The matrix in memory -/

/-- Port address of module (x, y) (20_memory.md R78). -/
def matAddr (x y : Nat) : Nat := Config.matBase + 256 * y + x

/-- MAT[y][x] (10_state.md R54). -/
def State.moduleAt (s : State) (x y : Nat) : QrModule := QrModule.ofByte (s.byteAt (matAddr x y))

/-- MAT within 0 ≤ x, y < side. -/
def State.readMatrix (s : State) (side : Nat) : Matrix := matTabulate side s.moduleAt

/-- The bytes of row `y` of `m`, `side` of them. -/
def rowBytes (m : Matrix) (side y : Nat) : List Byte :=
  (List.range side).map fun x => (matGet m x y).toByte

/-- The address is that of a module (x, y) with x, y < side (20_memory.md R78). -/
def inSymbol (side a : Nat) : Bool :=
  decide (Config.matBase ≤ a) && decide ((a - Config.matBase) % 256 < side) &&
    decide ((a - Config.matBase) / 256 < side)

/-- The cells of the modules (x, y) of `m` with x, y < side, by rows. -/
def matrixCells (m : Matrix) (side : Nat) : Memory :=
  (List.range side).flatMap fun y => cellsFrom (matAddr 0 y) (rowBytes m side y)

/-- `MAT <- m` within 0 ≤ x, y < side, both bits of each module. MAT has no module beyond MAT_DIM, so none is written there. -/
def storeMatrix (m : Matrix) (side : Nat) (s : State) : State :=
  let n := min side Config.matDim
  { s with mem := Memory.overwrite (inSymbol n) (matrixCells m n) s.mem }

/-! ## Failure, the block's exception entry, and CLEAR, the return from it -/

/-- D0's code of a result kind (60_exceptions.md R330). -/
def ResultKind.code : ResultKind → Int
  | .success => 0
  | .fileError => -1
  | .memoryError => -2
  | .initError => -3
  | .writeError => -4
  | .unexpectedInput => -5000
  | .noSymbolProduced => -5001
  | .unknownError => -5002

/-- `s32(code(K))`, the 32-bit two's-complement image (00_scope.md R10, 60_exceptions.md R330). -/
def ResultKind.image (k : ResultKind) : Word := BitVec.ofInt 32 k.code

/-- `fail K`: RESULT takes the kind's code and ERRCMD the pending word; nothing else changes (40_system_commands.md R135,
60_exceptions.md R332, R336). -/
def fail (k : ResultKind) (s : State) : State :=
  { s with result := k.image, errcmd := s.pending }

/-- The return from a failure, CLEAR's writes: RESULT, ERRCMD and HAZ to 0, nothing else (40_system_commands.md R138,
60_exceptions.md R337). -/
def clearFailure (s : State) : State :=
  { s with result := 0, errcmd := 0, haz := false }

/-- The three outcomes of a command other than CLEAR and RESET (00_scope.md R13, 40_system_commands.md R133): skipped when
RESULT is not 0 (R134), else failure with the kind its first unmet precondition gives (R135), else all its writes (R136). -/
def runCommand (check : State → Option ResultKind) (writes : State → State) (s : State) :
    Host.Outcome State Fault Refusal :=
  if s.result ≠ 0 then .next s
  else
    match check s with
    | some k => .next (fail k s)
    | none => .next (writes s)

/-- The preconditions in the order a rule lists them, each with the kind it gives when it does not hold: the first that
does not hold decides (40_system_commands.md R133). -/
def firstFailure : List (Bool × ResultKind) → Option ResultKind
  | [] => none
  | (holds, kind) :: rest => if holds then firstFailure rest else some kind

/-! ## Life cycle -/

/-- Acceptance of the command word `w` (40_system_commands.md R130). -/
def accept (w : Word) (s : State) : State := { s with pending := w, busy := true, done := false }

/-- The end of a completion: BUSY 0, DONE 1 (40_system_commands.md R131). -/
def markDone (s : State) : State := { s with busy := false, done := true }

/-- A discarded host write (40_system_commands.md R140). -/
def raiseHazard (s : State) : State := { s with haz := true }

/-- The command the pending word spells, which the core reads at completion (10_state.md R50, 30_encoding.md R106). -/
def fetch (s : State) : Except DecodeError Instr := decode s.pending

/-- An illegal word at completion: skipped when RESULT is not 0, else it fails with UnexpectedInput (30_encoding.md R107,
40_system_commands.md R134). -/
def runIllegal (s : State) : Host.Outcome State Fault Refusal :=
  runCommand (fun _ => some .unexpectedInput) (fun t => t) s

/-- The soft reset's writes: every register at its reset value, the memories kept (40_system_commands.md R139). PENDING is
no register and keeps its bits, which nothing reads while BUSY is 0 (log 6). -/
def softReset (s : State) : State :=
  { State.reset with
    pending := s.pending, mem := s.mem, epoch := s.epoch, draws := s.draws, inputs := s.inputs,
    responses := s.responses }

/-- Hard reset (70_reset_and_hazards.md R360): the state after reset, with memory contents unspecified anew (log 5). The
model's own schedule, response log and draw counter go on. -/
def hardReset (s : State) : State :=
  { State.reset with
    epoch := s.epoch + 1, draws := s.draws, inputs := s.inputs, responses := s.responses }

/-- The host receives a response. -/
def respond (r : Response) (s : State) : State := { s with responses := r :: s.responses }

/-- Apply `f` to the next state, if there is one. -/
def mapNext (f : State → State) : Host.Outcome State Fault Refusal → Host.Outcome State Fault Refusal
  | .next s => .next (f s)
  | .fault r => .fault r
  | .refused r => .refused r

end Sys2Proof.Machine
end

