-- ==== Sys2Proof/Machine/Flags.lean ====
section
/-! DEFINITION. The flags: the fields of STATUS (10_state.md R23, R32) and the PENV bits the matrix commands write. -/

namespace Sys2Proof.Machine

/-- MSTATE's code in STATUS bits 5:4 (10_state.md R32). -/
def Phase.code : Phase → BitVec 2
  | .empty => 0
  | .framed => 1
  | .placed => 2
  | .masked => 3

/-- STATUS.ERR reads 1 exactly when RESULT is not 0 (10_state.md R32). -/
def State.err (s : State) : Bool := s.result != 0

/-- The STATUS register as the host reads it (10_state.md R32): PENV in 15:8, OVALID in 6, MSTATE in 5:4, HAZ, ERR, DONE
and BUSY in 3 to 0, the other bits 0. -/
def statusWord (s : State) : Word :=
  0#16 ++ s.penv ++ 0#1 ++ BitVec.ofBool s.ovalid ++ s.mstate.code ++ BitVec.ofBool s.haz ++ BitVec.ofBool s.err ++
    BitVec.ofBool s.done ++ BitVec.ofBool s.busy

/-- `STATUS.PENV[m] <- 1` (42_matrix_builder.md R222). -/
def setPenv (penv : BitVec 8) (m : Nat) : BitVec 8 := penv ||| (1#8 <<< m)

/-- `PENm`, for m from 0 to 7 (10_state.md R44). -/
def State.penAt (s : State) (m : Nat) : Word := (s.pen[m]?).getD 0

/-- The flags and scores of an earlier matrix are dropped: PENV, PEN0 to PEN7, MASK_SEL and PEN_SEL to 0
(42_matrix_builder.md R220, R221). -/
def dropScores (s : State) : State :=
  { s with penv := 0, pen := Vector.replicate 8 0, maskSel := 0, penSel := 0 }

/-- `PENm <- p ; STATUS.PENV[m] <- 1` (42_matrix_builder.md R222, R223). -/
def recordPenalty (m : Nat) (p : Word) (s : State) : State :=
  { s with pen := s.pen.setIfInBounds m p, penv := setPenv s.penv m }

end Sys2Proof.Machine
end

