-- ==== Sys2Proof/Machine/Galois.lean ====
section
/-! DEFINITION. Arithmetic of GF(256) (41_rs_encoder.md R150 to R153); the sum of two elements is `^^^` (R151). -/

namespace Sys2Proof.Machine

/-- One pass of the loop of `gmul` for bit `i` of `b`: double `p`, reduce on a carry, add `a` (41_rs_encoder.md R152). -/
def gmulPass (a b p : Byte) (i : Nat) : Byte :=
  let doubled := if p.msb then (p <<< 1) ^^^ Config.gfPolyLow else p <<< 1
  if b.getLsbD i then doubled ^^^ a else doubled

/-- The product of two field elements (41_rs_encoder.md R152): bits 7 down to 0 of `b`. -/
def gmul (a b : Byte) : Byte := [7, 6, 5, 4, 3, 2, 1, 0].foldl (gmulPass a b) 0

/-- `EXP[i]`, the power `i` of the field generator (41_rs_encoder.md R153). -/
def expAlpha : Nat → Byte
  | 0 => 1
  | i + 1 => gmul (expAlpha i) Config.gfAlpha

/-- `LOG[e]` for e ≠ 0: the i from 0 to 254 with EXP[i] = e (41_rs_encoder.md R153); none for e = 0. -/
def logAlpha (e : Byte) : Option Nat := (List.range 255).find? fun i => expAlpha i == e

end Sys2Proof.Machine
end

