-- ==== Sys2Proof/Machine/Operands.lean ====
section
/-! DEFINITION. Where a command's operands come from (30_encoding.md R104): operand registers, latched MCFG fields, buffers. -/

namespace Sys2Proof.Machine

/-- `VERSION.V` as an unsigned number (10_state.md R36). -/
def State.versionOperand (s : State) : Nat := s.version.toNat

/-- `LEVEL.L` as an unsigned number (10_state.md R37). -/
def State.levelOperand (s : State) : Nat := s.level.toNat

/-- `RS_SRC.SRC` (10_state.md R38). -/
def State.srcOperand (s : State) : Nat := s.rsSrc.toNat

/-- `RS_DST.DST` (10_state.md R39). -/
def State.dstOperand (s : State) : Nat := s.rsDst.toNat

/-- `MCFG.MVER` (10_state.md R41). -/
def State.latchedVersion (s : State) : Nat := s.mver.toNat

/-- `MCFG.MLEVEL` (10_state.md R41). -/
def State.latchedLevel (s : State) : Nat := s.mlevel.toNat

/-- `MCFG.MSIZE` (10_state.md R41). -/
def State.latchedSize (s : State) : Nat := s.msize.toNat

/-- A legal Version, 1 to 40 (10_state.md R36). -/
def legalVersion (v : Nat) : Bool := decide (Config.versionMin ≤ v) && decide (v ≤ Config.versionMax)

/-- `DBUF[i]` (20_memory.md R76). -/
def State.dbuf (s : State) (i : Nat) : Byte := s.byteAt (Config.dbufBase + i)

/-- `EBUF[i]` (20_memory.md R76). -/
def State.ebuf (s : State) (i : Nat) : Byte := s.byteAt (Config.ebufBase + i)

/-- `CWBUF[i]` (20_memory.md R76). -/
def State.cwbuf (s : State) (i : Nat) : Byte := s.byteAt (Config.cwbufBase + i)

/-- `OBUF[i]` (20_memory.md R76). -/
def State.obuf (s : State) (i : Nat) : Byte := s.byteAt (Config.obufBase + i)

/-- `DBUF[start .. start+count-1]`. -/
def State.dataBlock (s : State) (start count : Nat) : List Byte := s.bytesAt (Config.dbufBase + start) count

/-- A colour component is at most 255 (10_state.md R40, 43_png_writer.md R260). -/
def legalComponent (c : Word) : Bool := decide (c.toNat ≤ 255)

/-- The colour check of PNG_WRITE: no override, or three legal components (43_png_writer.md R260). -/
def State.coloursLegal (s : State) : Bool :=
  !s.colorEn || (legalComponent s.colorR && legalComponent s.colorG && legalComponent s.colorB)

end Sys2Proof.Machine
end

