-- ==== Sys2Proof/Machine/ReedSolomon.lean ====
section
/-! DEFINITION. The RS unit: generator polynomials, RSENC, the block structure of a symbol, and the commands RS_ENCODE and
ECC_SYMBOL (41_rs_encoder.md R154 to R166). -/

namespace Sys2Proof.Machine

/-! ## The code of one block -/

/-- The coefficients of `p(x)·(x + root)`, highest power first (41_rs_encoder.md R154). -/
def mulByRoot (p : List Byte) (root : Byte) : List Byte :=
  List.zipWith (fun a b => a ^^^ b) (p ++ [0]) (0 :: p.map fun c => gmul c root)

/-- `G[n][0..n]`, the coefficients of the generator polynomial of degree n, highest power first (41_rs_encoder.md R154). -/
def genPoly : Nat → List Byte
  | 0 => [1]
  | i + 1 => mulByRoot (genPoly i) (expAlpha (Config.rsFcr + i))

/-- One pass of the outer loop of RSENC with the generator's coefficients after the first, `taps` = G[n][1..n]: the register
`r` takes in the data byte `d` (41_rs_encoder.md R156). -/
def rsShift (taps r : List Byte) (d : Byte) : List Byte :=
  let f := d ^^^ r.headD 0
  List.zipWith (fun a g => a ^^^ gmul g f) (r.tail ++ [0]) taps

/-- `RSENC(d, n)`, the n EC codewords of the block `d` (41_rs_encoder.md R155, R156). -/
def rsenc (d : List Byte) (n : Nat) : List Byte :=
  d.foldl (rsShift (genPoly n).tail) (List.replicate n 0)

/-! ## The block structure of a symbol -/

/-- What `BlockSpec(V, L)` gives (41_rs_encoder.md R158). -/
structure BlockSpec where
  /-- T, codewords of the symbol. -/
  total : Nat
  /-- nb, blocks. -/
  nb : Nat
  /-- n, EC codewords per block. -/
  n : Nat
  /-- D, data codewords of the symbol. -/
  dataLen : Nat
  /-- b1, the shorter blocks, which come first. -/
  b1 : Nat
  /-- b2, the longer blocks. -/
  b2 : Nat
  /-- k1, data codewords of a shorter block. -/
  k1 : Nat
deriving DecidableEq, Repr

/-- `BlockSpec(V, L)` (41_rs_encoder.md R158). -/
def blockSpec (v l : Nat) : BlockSpec :=
  let e := blockEntry v l
  let nb := e.short + e.long
  let d := totalCodewords v - e.ec
  { total := totalCodewords v, nb := nb, n := e.ec / nb, dataLen := d, b1 := e.short, b2 := e.long, k1 := d / nb }

/-- `len(j)`: k1 for the first b1 blocks, k2 = k1 + 1 for the others (41_rs_encoder.md R158). -/
def BlockSpec.len (b : BlockSpec) (j : Nat) : Nat := if j < b.b1 then b.k1 else b.k1 + 1

/-- `start(j)`, the offset in DBUF of block j (41_rs_encoder.md R158). -/
def BlockSpec.start (b : BlockSpec) (j : Nat) : Nat := j * b.k1 + (j - b.b1)

/-- E = nb·n, the EC codewords of the symbol (41_rs_encoder.md R166). -/
def BlockSpec.ecLen (b : BlockSpec) : Nat := b.nb * b.n

/-! ## RS_ENCODE -/

/-- The four preconditions of RS_ENCODE, in order (41_rs_encoder.md R165). -/
def rsEncodeCheck (n k : Nat) (s : State) : Option ResultKind :=
  firstFailure
    [ (decide (1 ≤ n) && decide (n ≤ Config.ecMax), .unexpectedInput),
      (decide (1 ≤ k) && decide (k + n ≤ Config.rsCwMax), .unexpectedInput),
      (decide (s.srcOperand + k ≤ Config.dbufSize), .unexpectedInput),
      (decide (s.dstOperand + n ≤ Config.ebufSize), .unexpectedInput) ]

/-- `EBUF[DST + j] <- RSENC(DBUF[SRC .. SRC+k-1], n)[j]` (41_rs_encoder.md R165). -/
def rsEncodeWrites (n k : Nat) (s : State) : State :=
  storeBytes (Config.ebufBase + s.dstOperand) (rsenc (s.dataBlock s.srcOperand k) n) s

/-- RS_ENCODE (41_rs_encoder.md R165). -/
def execRsEncode (n k : Nat) (s : State) : Host.Outcome State Fault Refusal :=
  runCommand (rsEncodeCheck n k) (rsEncodeWrites n k) s

/-! ## ECC_SYMBOL -/

/-- The Version check that ECC_SYMBOL, MAT_FRAME and MAT_BUILD share (41_rs_encoder.md R166, 42_matrix_builder.md R220, R224). -/
def versionCheck (s : State) : Option ResultKind :=
  firstFailure [(legalVersion s.versionOperand, .unexpectedInput)]

/-- The EC codewords of the whole symbol, block j at j·n (41_rs_encoder.md R166). -/
def symbolEcc (b : BlockSpec) (s : State) : List Byte :=
  (List.range b.nb).flatMap fun j => rsenc (s.dataBlock (b.start j) (b.len j)) b.n

/-- `EBUF[j*n + i] <- RSENC(DBUF[start(j) ..], n)[i]` for every block (41_rs_encoder.md R166). -/
def eccSymbolWrites (s : State) : State :=
  storeBytes Config.ebufBase (symbolEcc (blockSpec s.versionOperand s.levelOperand) s) s

/-- ECC_SYMBOL (41_rs_encoder.md R166). -/
def execEccSymbol (s : State) : Host.Outcome State Fault Refusal :=
  runCommand versionCheck eccSymbolWrites s

end Sys2Proof.Machine
end

