-- ==== Sys2Proof/Machine/Placement.lean ====
section
/-! DEFINITION. Interleaving and placement of the codewords (42_matrix_builder.md R205 to R208). -/

namespace Sys2Proof.Machine

/-- `Interleave(V, L)`: the data codewords column by column across the blocks, then the EC codewords
(42_matrix_builder.md R205). -/
def interleave (b : BlockSpec) (s : State) : List Byte :=
  let kmax := if 0 < b.b2 then b.k1 + 1 else b.k1
  ((List.range kmax).flatMap fun i =>
    (List.range b.nb).flatMap fun j => if i < b.len j then [s.dbuf (b.start j + i)] else []) ++
  ((List.range b.n).flatMap fun i => (List.range b.nb).map fun j => s.ebuf (j * b.n + i))

/-- The right columns of the column pairs from `right` down, column 6 skipped (42_matrix_builder.md R206); `fuel` bounds the
loop. -/
def pairColumns : Nat → Nat → List Nat
  | 0, _ => []
  | fuel + 1, right =>
    if 1 ≤ right then
      let r := if right = 6 then 5 else right
      r :: pairColumns fuel (r - 2)
    else []

/-- The rows of a column pair in the order they are scanned: upward when bit 1 of `right + 1` is 0, else downward
(42_matrix_builder.md R206). -/
def pairRows (s right : Nat) : List Nat :=
  if (right + 1) &&& 2 = 0 then (List.range s).map fun vert => s - 1 - vert else List.range s

/-- `PlaceOrder(V)`: the data modules of Frame(V) in the order they receive bits (42_matrix_builder.md R206). -/
def placeOrder (v : Nat) : List (Nat × Nat) :=
  let s := side v
  (pairColumns s (s - 1)).flatMap fun right =>
    (pairRows s right).flatMap fun y =>
      [(right, y), (right - 1, y)].filter fun p => !(frameModule v p.1 p.2).func

/-- The bit that entry `idx` of PlaceOrder receives: the most significant bit of each codeword first, and 0 for the
remainder bits (42_matrix_builder.md R207). -/
def codewordBit (cw : List Byte) (idx : Nat) : Bool := (cw.getD (idx / 8) 0).getLsbD (7 - idx % 8)

/-- `Place(M, cw)`: every data module takes its bit, the 30 format modules are light, nothing else changes
(42_matrix_builder.md R208). -/
def place (v : Nat) (m : Matrix) (cw : List Byte) : Matrix :=
  (placeOrder v).zipIdx.foldl (fun acc e => matSetDark acc e.1.1 e.1.2 (codewordBit cw e.2))
    (writeFormat m (side v) 0)

end Sys2Proof.Machine
end

