-- ==== Sys2Proof/Machine/MatrixBuilder.lean ====
section
/-! DEFINITION. The commands of the MAT unit: MAT_FRAME, MAT_PLACE, MAT_EVAL, MAT_MASK, MAT_BUILD
(42_matrix_builder.md R220 to R224). -/

namespace Sys2Proof.Machine

/-! ## MAT_FRAME -/

/-- MAT_FRAME's writes (42_matrix_builder.md R220): the whole array, MCFG, the phase, and the scores and CWLEN dropped. -/
def frameWrites (s : State) : State :=
  let v := s.versionOperand
  let t := storeMatrix (matTabulate Config.matDim (framedModule v)) Config.matDim s
  { dropScores t with
    mver := s.version, msize := BitVec.ofNat 8 (side v), mlevel := 0, mstate := .framed, cwlen := 0 }

/-- MAT_FRAME (42_matrix_builder.md R220). -/
def execMatFrame (s : State) : Host.Outcome State Fault Refusal :=
  runCommand versionCheck frameWrites s

/-! ## MAT_PLACE -/

/-- A frame exists: MSTATE ≠ EMPTY (42_matrix_builder.md R221). -/
def placeCheck (s : State) : Option ResultKind :=
  firstFailure [(decide (s.mstate ≠ .empty), .noSymbolProduced)]

/-- The codeword sequence MAT_PLACE computes: Version from MCFG.MVER, level from LEVEL (42_matrix_builder.md R221). -/
def State.placedCodewords (s : State) : List Byte :=
  interleave (blockSpec s.latchedVersion s.levelOperand) s

/-- MAT_PLACE's writes (42_matrix_builder.md R221): CWBUF and CWLEN, the placed matrix, MCFG.MLEVEL, the phase, and the scores
dropped. -/
def placeWrites (s : State) : State :=
  let v := s.latchedVersion
  let cw := s.placedCodewords
  let t := storeBytes Config.cwbufBase cw s
  let u := storeMatrix (place v (s.readMatrix (side v)) cw) (side v) t
  { dropScores u with cwlen := BitVec.ofNat 12 (totalCodewords v), mlevel := s.level, mstate := .placed }

/-- MAT_PLACE (42_matrix_builder.md R221). -/
def execMatPlace (s : State) : Host.Outcome State Fault Refusal :=
  runCommand placeCheck placeWrites s

/-! ## MAT_EVAL -/

/-- A placed matrix is there: MSTATE = PLACED (42_matrix_builder.md R222, R223). -/
def placedCheck (s : State) : Option ResultKind :=
  firstFailure [(decide (s.mstate = .placed), .noSymbolProduced)]

/-- `Masked(MAT, MCFG.MLEVEL, m)`, MAT taken within 0 ≤ x, y < MCFG.MSIZE (42_matrix_builder.md R222). -/
def State.candidate (s : State) (m : Nat) : Matrix :=
  masked (s.readMatrix s.latchedSize) s.latchedSize s.latchedLevel m

/-- The penalty of mask candidate m, as PENm holds it; it is below 2^23 (42_matrix_builder.md R215, R222). -/
def State.candidatePenalty (s : State) (m : Nat) : Word :=
  BitVec.ofNat 32 (penalty (s.candidate m) s.latchedSize)

/-- MAT_EVAL's writes (42_matrix_builder.md R222). -/
def evalWrites (m : Nat) (s : State) : State := recordPenalty m (s.candidatePenalty m) s

/-- MAT_EVAL (42_matrix_builder.md R222). -/
def execMatEval (m : Nat) (s : State) : Host.Outcome State Fault Refusal :=
  runCommand placedCheck (evalWrites m) s

/-! ## MAT_MASK -/

/-- MAT_MASK's writes (42_matrix_builder.md R223). -/
def maskWrites (m : Nat) (s : State) : State :=
  let p := s.candidatePenalty m
  let t := storeMatrix (s.candidate m) s.latchedSize s
  { recordPenalty m p t with maskSel := BitVec.ofNat 3 m, penSel := p, mstate := .masked }

/-- MAT_MASK (42_matrix_builder.md R223). -/
def execMatMask (m : Nat) (s : State) : Host.Outcome State Fault Refusal :=
  runCommand placedCheck (maskWrites m) s

/-! ## MAT_BUILD -/

/-- The eight evaluations of MAT_BUILD in order (42_matrix_builder.md R224). -/
def evalAllWrites (s : State) : State :=
  (List.range Config.nMask).foldl (fun t m => evalWrites m t) s

/-- MAT_BUILD's writes: those of frame, place, the eight evaluations, and the mask of the selected index, as one command
(42_matrix_builder.md R216, R224). -/
def buildWrites (s : State) : State :=
  let t := evalAllWrites (placeWrites (frameWrites s))
  maskWrites (selectMask fun m => (t.penAt m).toNat) t

/-- MAT_BUILD (42_matrix_builder.md R224). -/
def execMatBuild (s : State) : Host.Outcome State Fault Refusal :=
  runCommand versionCheck buildWrites s

end Sys2Proof.Machine
end

