-- ==== Sys2Proof/Machine/Png.lean ====
section
/-! DEFINITION. The PNG unit: bitmap, scanlines, zlib stream, chunks, and the command PNG_WRITE
(43_png_writer.md R260 to R276). -/

namespace Sys2Proof.Machine

/-! ## Byte orders -/

/-- A 32-bit number as four bytes, most significant first (43_png_writer.md R266, R270, R271). -/
def bigEndian32 (n : Nat) : List Byte :=
  [BitVec.ofNat 8 (n >>> 24), BitVec.ofNat 8 (n >>> 16), BitVec.ofNat 8 (n >>> 8), BitVec.ofNat 8 n]

/-- A 16-bit number as two bytes, least significant first (43_png_writer.md R267). -/
def littleEndian16 (n : Nat) : List Byte := [BitVec.ofNat 8 n, BitVec.ofNat 8 (n >>> 8)]

/-! ## Checksums -/

/-- One byte of Adler-32 on the sums (a, b) (43_png_writer.md R268). -/
def adlerByte (acc : Nat × Nat) (x : Byte) : Nat × Nat :=
  let a := (acc.1 + x.toNat) % 65521
  (a, (acc.2 + a) % 65521)

/-- Adler-32 (43_png_writer.md R268). -/
def adler32 (bytes : List Byte) : Nat :=
  let acc := bytes.foldl adlerByte (1, 0)
  (acc.2 <<< 16) ||| acc.1

/-- One bit step of CRC-32 (43_png_writer.md R269). -/
def crcBit (c : Word) : Word := if c.getLsbD 0 then (c >>> 1) ^^^ 0xEDB88320 else c >>> 1

/-- One byte of CRC-32: eight bit steps (43_png_writer.md R269). -/
def crcByte (c : Word) (x : Byte) : Word :=
  crcBit (crcBit (crcBit (crcBit (crcBit (crcBit (crcBit (crcBit (c ^^^ x.setWidth 32))))))))

/-- CRC-32 (43_png_writer.md R269). -/
def crc32 (bytes : List Byte) : Word := bytes.foldl crcByte 0xFFFFFFFF ^^^ 0xFFFFFFFF

/-! ## Bitmap and raw stream -/

/-- The colour mode of an image (43_png_writer.md R261). -/
structure ColourMode where
  /-- PNG colour type, 0 grayscale or 2 RGB. -/
  colourType : Byte
  /-- Bytes per pixel. -/
  bpp : Nat
  /-- The bytes of a dark pixel. -/
  dark : List Byte
  /-- The bytes of a light pixel. -/
  light : List Byte
deriving DecidableEq, Repr

/-- The mode CTRL.COLOR_EN and the colour registers select (43_png_writer.md R261). -/
def State.colourMode (s : State) : ColourMode :=
  if s.colorEn then
    { colourType := 2, bpp := 3, dark := [s.colorR.setWidth 8, s.colorG.setWidth 8, s.colorB.setWidth 8],
      light := [0xFF, 0xFF, 0xFF] }
  else { colourType := 0, bpp := 1, dark := [0x00], light := [0xFF] }

/-- W, the width and height in pixels of the image of a symbol of side `s` (43_png_writer.md R262). -/
def imageWidth (s : Nat) : Nat := Config.scale * (s + 2 * Config.quiet)

/-- `PixelDark(px, py)` (43_png_writer.md R263): the quiet zone is light. -/
def pixelDark (m : Matrix) (s px py : Nat) : Bool :=
  if Config.quiet ≤ px ∧ Config.quiet ≤ py ∧ px - Config.quiet < s ∧ py - Config.quiet < s then
    (matGet m (px - Config.quiet) (py - Config.quiet)).dark
  else false

/-- The bytes of one pixel (43_png_writer.md R261). -/
def pixelBytes (c : ColourMode) (isDark : Bool) : List Byte := if isDark then c.dark else c.light

/-- Scanline `py`: the filter byte, then the pixels left to right (43_png_writer.md R264). -/
def scanline (m : Matrix) (s : Nat) (c : ColourMode) (py : Nat) : List Byte :=
  Config.filterType :: (List.range (imageWidth s)).flatMap fun px => pixelBytes c (pixelDark m s px py)

/-- RAW, the scanlines from the top (43_png_writer.md R265). -/
def rawStream (m : Matrix) (s : Nat) (c : ColourMode) : List Byte :=
  (List.range (imageWidth s)).flatMap (scanline m s c)

/-! ## The zlib stream -/

/-- nb = ceil(R / 65535), the number of stored blocks (43_png_writer.md R266). -/
def storedCount (len : Nat) : Nat := (len + (Config.storedMax - 1)) / Config.storedMax

/-- Piece `i` of the raw stream (43_png_writer.md R267). -/
def storedPiece (raw : List Byte) (i : Nat) : List Byte := (raw.drop (Config.storedMax * i)).take Config.storedMax

/-- Stored block `i` of `count` (43_png_writer.md R267). -/
def storedBlock (raw : List Byte) (count i : Nat) : List Byte :=
  let piece := storedPiece raw i
  (if i + 1 = count then (0x01 : Byte) else 0x00) :: littleEndian16 piece.length ++
    littleEndian16 (piece.length ^^^ 0xFFFF) ++ piece

/-- Z, the zlib stream: header, stored blocks, Adler-32 (43_png_writer.md R266). -/
def zlibStream (raw : List Byte) : List Byte :=
  let count := storedCount raw.length
  [0x78, 0x01] ++ ((List.range count).flatMap (storedBlock raw count)) ++ bigEndian32 (adler32 raw)

/-! ## Chunks and the file -/

/-- `Chunk(type, data)` (43_png_writer.md R270). -/
def chunk (type data : List Byte) : List Byte :=
  bigEndian32 data.length ++ type ++ data ++ bigEndian32 (crc32 (type ++ data)).toNat

/-- The ASCII bytes "IHDR". -/
def typeIhdr : List Byte := [0x49, 0x48, 0x44, 0x52]
/-- The ASCII bytes "IDAT". -/
def typeIdat : List Byte := [0x49, 0x44, 0x41, 0x54]
/-- The ASCII bytes "IEND". -/
def typeIend : List Byte := [0x49, 0x45, 0x4E, 0x44]

/-- The PNG signature (43_png_writer.md R274). -/
def pngSignature : List Byte := [0x89, 0x50, 0x4E, 0x47, 0x0D, 0x0A, 0x1A, 0x0A]

/-- The 13 bytes of IHDR data for an image `w` pixels wide and high (43_png_writer.md R271). -/
def ihdrData (w : Nat) (c : ColourMode) : List Byte :=
  bigEndian32 w ++ bigEndian32 w ++ [Config.bitDepth, c.colourType, 0, 0, 0]

/-- The PNG byte stream of the symbol `m` of side `s` (43_png_writer.md R272 to R274). -/
def pngStream (m : Matrix) (s : Nat) (c : ColourMode) : List Byte :=
  pngSignature ++ chunk typeIhdr (ihdrData (imageWidth s) c) ++ chunk typeIdat (zlibStream (rawStream m s c)) ++
    chunk typeIend []

/-- R, the length of the raw stream (43_png_writer.md R265). -/
def rawLength (s bpp : Nat) : Nat := imageWidth s * (1 + imageWidth s * bpp)

/-- len(PNG) (43_png_writer.md R275). -/
def pngLength (s bpp : Nat) : Nat := rawLength s bpp + 5 * storedCount (rawLength s bpp) + 63

/-! ## PNG_WRITE -/

/-- The three preconditions of PNG_WRITE, in order, for an output buffer of `obufSize` bytes (43_png_writer.md R276). -/
def pngCheck (obufSize : Nat) (s : State) : Option ResultKind :=
  firstFailure
    [ (decide (s.mstate = .masked), .noSymbolProduced),
      (s.coloursLegal, .unexpectedInput),
      (decide (pngLength s.latchedSize s.colourMode.bpp ≤ obufSize), .writeError) ]

/-- The stream PNG_WRITE produces from MAT within MCFG.MSIZE (43_png_writer.md R276). -/
def State.pngBytes (s : State) : List Byte :=
  pngStream (s.readMatrix s.latchedSize) s.latchedSize s.colourMode

/-- PNG_WRITE's writes: the stream to OBUF, OLEN, OVALID (43_png_writer.md R276). -/
def pngWrites (s : State) : State :=
  let bytes := s.pngBytes
  { storeBytes Config.obufBase bytes s with olen := BitVec.ofNat 18 bytes.length, ovalid := true }

/-- PNG_WRITE (43_png_writer.md R276). -/
def execPngWrite (s : State) : Host.Outcome State Fault Refusal :=
  runCommand (pngCheck Config.obufSize) pngWrites s

end Sys2Proof.Machine
end

