-- ==== Sys2Proof/Machine/System.lean ====
section
/-! DEFINITION. The system commands NOP, CLEAR and RESET (40_system_commands.md R137 to R139). -/

namespace Sys2Proof.Machine

/-- NOP: no precondition, no write (40_system_commands.md R137). -/
def execNop (s : State) : Host.Outcome State Fault Refusal :=
  runCommand (fun _ => none) (fun t => t) s

/-- CLEAR: never skipped; RESULT, ERRCMD and HAZ to 0 (40_system_commands.md R138). -/
def execClear (s : State) : Host.Outcome State Fault Refusal := .next (clearFailure s)

/-- RESET: never skipped; every register to its reset value, the memories kept (40_system_commands.md R139). -/
def execReset (s : State) : Host.Outcome State Fault Refusal := .next (softReset s)

end Sys2Proof.Machine
end

