-- ==== Sys2Proof/Machine/Dispatch.lean ====
section
/-! DEFINITION. Which meaning each command has: one arm per row of spec/opcode_table.json. -/

namespace Sys2Proof.Machine

def exec (i : Instr) (s : State) : Host.Outcome State Fault Refusal :=
  match i with
  | .nop => Sys2Proof.Machine.execNop s
  | .clear => Sys2Proof.Machine.execClear s
  | .reset => Sys2Proof.Machine.execReset s
  | .rsEncode n k => Sys2Proof.Machine.execRsEncode n k s
  | .eccSymbol => Sys2Proof.Machine.execEccSymbol s
  | .matFrame => Sys2Proof.Machine.execMatFrame s
  | .matPlace => Sys2Proof.Machine.execMatPlace s
  | .matEval m => Sys2Proof.Machine.execMatEval m s
  | .matMask m => Sys2Proof.Machine.execMatMask m s
  | .matBuild => Sys2Proof.Machine.execMatBuild s
  | .pngWrite => Sys2Proof.Machine.execPngWrite s

end Sys2Proof.Machine
end

