-- ==== Sys2Proof/Machine/Port.lean ====
section
/-! DEFINITION. The host port: the register map, the address map and the four accesses (10_state.md R24 to R47,
20_memory.md R70 to R81, 40_system_commands.md R130, R140). -/

namespace Sys2Proof.Machine

/-- The registers of 10_state.md R24. -/
inductive Reg where
  | id | ctrl | status | result | cmd | errcmd | version | level | rsSrc | rsDst
  | colorR | colorG | colorB | mcfg | maskSel | penSel
  | pen (m : Fin 8)
  | cwlen | olen
deriving DecidableEq, Repr

/-- What the host may do with a register (10_state.md R24). -/
inductive RegAccess where
  | rw
  | ro
  | wo
deriving DecidableEq, Repr

/-- The register at an offset; none at 0x68 to 0xFC, at any misaligned offset and outside the region (10_state.md R24, R47). -/
def regAt : Nat → Option Reg
  | 0x00 => some .id
  | 0x04 => some .ctrl
  | 0x08 => some .status
  | 0x0C => some .result
  | 0x10 => some .cmd
  | 0x14 => some .errcmd
  | 0x18 => some .version
  | 0x1C => some .level
  | 0x20 => some .rsSrc
  | 0x24 => some .rsDst
  | 0x28 => some .colorR
  | 0x2C => some .colorG
  | 0x30 => some .colorB
  | 0x34 => some .mcfg
  | 0x38 => some .maskSel
  | 0x3C => some .penSel
  | 0x40 => some (.pen 0)
  | 0x44 => some (.pen 1)
  | 0x48 => some (.pen 2)
  | 0x4C => some (.pen 3)
  | 0x50 => some (.pen 4)
  | 0x54 => some (.pen 5)
  | 0x58 => some (.pen 6)
  | 0x5C => some (.pen 7)
  | 0x60 => some .cwlen
  | 0x64 => some .olen
  | _ => none

/-- The access column of 10_state.md R24. -/
def regAccess : Reg → RegAccess
  | .cmd => .wo
  | .ctrl => .rw
  | .version => .rw
  | .level => .rw
  | .rsSrc => .rw
  | .rsDst => .rw
  | .colorR => .rw
  | .colorG => .rw
  | .colorB => .rw
  | .id => .ro
  | .status => .ro
  | .result => .ro
  | .errcmd => .ro
  | .mcfg => .ro
  | .maskSel => .ro
  | .penSel => .ro
  | .pen _ => .ro
  | .cwlen => .ro
  | .olen => .ro

/-- MCFG as the host reads it: MSIZE in 23:16, MLEVEL in 9:8, MVER in 5:0 (10_state.md R41). -/
def mcfgWord (s : State) : Word := 0#8 ++ s.msize ++ 0#6 ++ s.mlevel ++ 0#2 ++ s.mver

/-- A register's 32-bit value, reserved bits 0 (10_state.md R24, R30 to R46); none for CMD, which has no readable value (R34). -/
def readReg (s : State) : Reg → Option Word
  | .id => some Config.idValue
  | .ctrl => some ((BitVec.ofBool s.colorEn).setWidth 32)
  | .status => some (statusWord s)
  | .result => some s.result
  | .cmd => none
  | .errcmd => some s.errcmd
  | .version => some (s.version.setWidth 32)
  | .level => some (s.level.setWidth 32)
  | .rsSrc => some (s.rsSrc.setWidth 32)
  | .rsDst => some (s.rsDst.setWidth 32)
  | .colorR => some s.colorR
  | .colorG => some s.colorG
  | .colorB => some s.colorB
  | .mcfg => some (mcfgWord s)
  | .maskSel => some (s.maskSel.setWidth 32)
  | .penSel => some s.penSel
  | .pen m => some (s.penAt m.val)
  | .cwlen => some (s.cwlen.setWidth 32)
  | .olen => some (s.olen.setWidth 32)

/-- An accepted write while BUSY is 0: an RW register's fields take the low bits that fit (10_state.md R24), CMD accepts a
command (40_system_commands.md R130); none for a register the host may not write. -/
def writeReg (v : Word) (s : State) : Reg → Option State
  | .ctrl => some { s with colorEn := v.getLsbD 0 }
  | .version => some { s with version := v.setWidth 6 }
  | .level => some { s with level := v.setWidth 2 }
  | .rsSrc => some { s with rsSrc := v.setWidth 12 }
  | .rsDst => some { s with rsDst := v.setWidth 12 }
  | .colorR => some { s with colorR := v }
  | .colorG => some { s with colorG := v }
  | .colorB => some { s with colorB := v }
  | .cmd => some (accept v s)
  | .id => none
  | .status => none
  | .result => none
  | .errcmd => none
  | .mcfg => none
  | .maskSel => none
  | .penSel => none
  | .pen _ => none
  | .cwlen => none
  | .olen => none

/-- The regions of the address map (20_memory.md R76). -/
inductive Region where
  | registers
  | dbuf
  | ebuf
  | cwbuf
  | mat
  | obuf
  | unmapped
deriving DecidableEq, Repr

/-- The region of an address (20_memory.md R76). -/
def regionOf (a : Nat) : Region :=
  if a ≤ 0x000FF then .registers
  else if a ≤ 0x00FFF then .unmapped
  else if a ≤ 0x01FFF then .dbuf
  else if a ≤ 0x02FFF then .ebuf
  else if a ≤ 0x03FFF then .cwbuf
  else if a ≤ 0x0FFFF then .unmapped
  else if a ≤ 0x1FFFF then .mat
  else if a ≤ 0x3FFFF then .obuf
  else .unmapped

/-- Column of an address of the MAT window: a[7:0] (20_memory.md R78). -/
def windowX (a : Nat) : Nat := a % 256

/-- Row of an address of the MAT window: a[15:8] (20_memory.md R78). -/
def windowY (a : Nat) : Nat := a / 256 % 256

/-- The address holds a byte of a buffer or a module of MAT (20_memory.md R76, R78). -/
def byteExists (a : Nat) : Bool :=
  match regionOf a with
  | .dbuf => true
  | .ebuf => true
  | .cwbuf => true
  | .obuf => true
  | .mat => decide (windowX a < Config.matDim) && decide (windowY a < Config.matDim)
  | .registers => false
  | .unmapped => false

/-- The byte the port shows at an address that exists while BUSY is 0; a module shows 0 in bits 7:2 (20_memory.md R78). -/
def portByte (s : State) (a : Nat) : Byte :=
  if regionOf a = .mat then (QrModule.ofByte (s.byteAt a)).toByte else s.byteAt a

/-- HostRead32 (20_memory.md R71): the register's value whether BUSY is 0 or 1; no state changes. -/
def hostRead32 (a : Nat) (s : State) : Response :=
  match (regAt a).bind (readReg s) with
  | some v => .okWord v
  | none => .err

/-- HostWrite32 (20_memory.md R72): ERR and no change where the register cannot be written; discarded with HAZ set while
BUSY is 1 (40_system_commands.md R140); else the write. -/
def hostWrite32 (a : Nat) (v : Word) (s : State) : Response × State :=
  match (regAt a).bind (writeReg v s) with
  | none => (.err, s)
  | some t => if s.busy then (.ok, raiseHazard s) else (.ok, t)

/-- HostRead8 (20_memory.md R73): ERR where no byte exists; while BUSY is 1 an unspecified value (log 4); else the byte.
Only the model's own draw counter changes, and only for an unspecified value. -/
def hostRead8 (a : Nat) (s : State) : Response × State :=
  if byteExists a then
    if s.busy then (.okByte (Config.busyByte s.draws a), { s with draws := s.draws + 1 })
    else (.okByte (portByte s a), s)
  else (.err, s)

/-- The host may write DBUF and EBUF only (20_memory.md R74). -/
def byteWritable (a : Nat) : Bool :=
  match regionOf a with
  | .dbuf => true
  | .ebuf => true
  | .cwbuf => false
  | .obuf => false
  | .mat => false
  | .registers => false
  | .unmapped => false

/-- HostWrite8 (20_memory.md R74): ERR outside DBUF and EBUF; discarded with HAZ set while BUSY is 1
(40_system_commands.md R140); else the byte is written. -/
def hostWrite8 (a : Nat) (v : Byte) (s : State) : Response × State :=
  if byteWritable a then
    if s.busy then (.ok, raiseHazard s) else (.ok, storeBytes a [v] s)
  else (.err, s)

/-- One access and its response (20_memory.md R70). -/
def portAccess (acc : Access) (s : State) : Response × State :=
  match acc with
  | .read32 a => (hostRead32 a.toNat s, s)
  | .write32 a v => hostWrite32 a.toNat v s
  | .read8 a => hostRead8 a.toNat s
  | .write8 a v => hostWrite8 a.toNat v s

/-- The host issues an access and receives the response. -/
def hostAccess (acc : Access) (s : State) : State :=
  respond (portAccess acc s).1 (portAccess acc s).2

end Sys2Proof.Machine
end

