-- ==== Sys2Proof/Machine/Sequencer.lean ====
section
/-! DEFINITION. The core's one step, the completion of the pending command (40_system_commands.md R131 to R133), and what
each event of the schedule does. -/

namespace Sys2Proof.Machine

/-- Dispatch of the pending word (40_system_commands.md R133). CLEAR and RESET are recognised first because they decode to
meanings that are never skipped; every other meaning, and the illegal word, tests RESULT itself (log 7). -/
def complete (s : State) : Host.Outcome State Fault Refusal :=
  match fetch s with
  | .ok i => exec i s
  | .error _ => runIllegal s

/-- The core's step: with BUSY 1 the completion, then BUSY 0 and DONE 1 (40_system_commands.md R131); with BUSY 0 it has no
step and the machine stays as it is (R131, 70_reset_and_hazards.md R368; log 2). -/
def coreStep (s : State) : Host.Outcome State Fault Refusal :=
  if s.busy then mapNext markDone (complete s) else .next s

/-- One event of the schedule. -/
def handleEvent (e : Event) (s : State) : Host.Outcome State Fault Refusal :=
  match e with
  | .host acc => .next (hostAccess acc s)
  | .core => coreStep s
  | .hardReset => .next (hardReset s)

/-- The next event of the schedule moves; with none left the core does (40_system_commands.md R132; log 1). -/
def runSchedule (s : State) : Host.Outcome State Fault Refusal :=
  match s.inputs with
  | [] => coreStep s
  | e :: rest => handleEvent e { s with inputs := rest }

/-- A command word pending, with the core to move next: what a CMD write that accepts it leaves (40_system_commands.md R130),
and a core step at the head of the schedule (log 1). -/
def pendNext (w : Word) (s : State) : State :=
  { accept w s with inputs := .core :: s.inputs }

end Sys2Proof.Machine
end

