-- ==== Sys2Proof/Machine/Step.lean ====
section
/-! DEFINITION. One step of the machine, and the state in which a given command word is what the next step runs. -/

namespace Sys2Proof.Machine

/-- One step: the next event of the schedule, or the core (log 1). -/
def step (s : State) : Host.Outcome State Fault Refusal := runSchedule s

/-- `s` with the command word of `nbits` bits `w` pending and the core to move (log 1). QRSB fetches nothing (10_state.md
R22): a command comes from the host by value, and this stands for that write to CMD. -/
def State.withFetchWord (s : State) (nbits w : Nat) : State := pendNext (tableWord nbits w) s

end Sys2Proof.Machine
end

