-- ==== Sys2Proof/Safety.lean ====
section
/-! DEFINITION. The terms in which claims are stated: legal states (what every run from reset keeps), which addresses a command
may write, commands in sequence, and readers of what the units write (polynomials, the zlib stream). -/

namespace Sys2Proof.Machine

/-! ## Legal states -/

/-- DONE and BUSY are never both 1 (10_state.md R32). -/
def State.lifeLegal (s : State) : Prop := ¬(s.busy = true ∧ s.done = true)

/-- RESULT holds 0 or a kind QRSB can raise (60_exceptions.md R330), and ERRCMD is 0 when RESULT is 0 (10_state.md R35). -/
def State.resultLegal (s : State) : Prop :=
  (s.result = 0 → s.errcmd = 0) ∧
    s.result ∈ [0, ResultKind.writeError.image, ResultKind.unexpectedInput.image, ResultKind.noSymbolProduced.image]

/-- MCFG is 0 when MSTATE is EMPTY; else MVER is a legal Version and MSIZE its side (10_state.md R41). -/
def State.configLegal (s : State) : Prop :=
  (s.mstate = .empty → s.mver = 0 ∧ s.mlevel = 0 ∧ s.msize = 0) ∧
    (s.mstate ≠ .empty → legalVersion s.latchedVersion = true ∧ s.latchedSize = side s.latchedVersion)

/-- The scores and lengths belong to the phase: no score is valid before a placement, a PEN register that is not valid is 0,
MASK_SEL and PEN_SEL are 0 unless a mask is applied, CWLEN is T(MVER) from the placement on and 0 before, OLEN is 0 when no
stream is valid (10_state.md R32, R42 to R46). -/
def State.scoresLegal (s : State) : Prop :=
  (s.mstate = .empty ∨ s.mstate = .framed → s.penv = 0 ∧ s.cwlen = 0) ∧
    (s.mstate = .placed ∨ s.mstate = .masked → s.cwlen.toNat = totalCodewords s.latchedVersion) ∧
    (s.mstate ≠ .masked → s.maskSel = 0 ∧ s.penSel = 0) ∧
    (∀ m, m < 8 → s.penv.getLsbD m = false → s.penAt m = 0) ∧
    (s.ovalid = false → s.olen = 0)

/-- Memory is in its canonical form, lists only addresses that hold a byte or a module, and a module has two bits
(20_memory.md R76, R78). -/
def State.memoryLegal (s : State) : Prop :=
  Memory.wf s.mem ∧ ∀ c ∈ s.mem, byteExists c.1 = true ∧ (regionOf c.1 = .mat → c.2.toNat < 4)

/-- The legal states: what reset gives and every step keeps. -/
def State.legal (s : State) : Prop :=
  s.lifeLegal ∧ s.resultLegal ∧ s.configLegal ∧ s.scoresLegal ∧ s.memoryLegal

/-- The format modules of MAT spell `w` in both copies (42_matrix_builder.md R196, R225). -/
def State.formatSpells (s : State) (w : BitVec 15) : Prop :=
  ∀ c ∈ formatCells s.latchedSize, (s.moduleAt c.1.1 c.1.2).dark = w.getLsbD c.2

/-- 42_matrix_builder.md R225 (a), (b), (c): when MSTATE is not EMPTY, MAT has the `func` bits of Frame(MVER) inside the symbol
and blank modules outside, the function modules other than the format modules have the frame's values, and the format modules
are light before a mask is applied and spell FormatWord(MLEVEL, MASK_SEL) after. -/
def State.matrixLegal (s : State) : Prop :=
  s.mstate ≠ .empty →
    (∀ x y, x < Config.matDim → y < Config.matDim →
      (s.moduleAt x y).func = (framedModule s.latchedVersion x y).func ∧
        (¬(x < s.latchedSize ∧ y < s.latchedSize) → s.moduleAt x y = QrModule.blank) ∧
        ((framedModule s.latchedVersion x y).func = true → isFormat s.latchedSize x y = false →
          (s.moduleAt x y).dark = (framedModule s.latchedVersion x y).dark)) ∧
      (s.mstate ≠ .masked → s.formatSpells 0) ∧
      (s.mstate = .masked → s.formatSpells (formatWord s.latchedLevel s.maskSel.toNat))

/-- Bit number `idx` of what CWBUF holds, most significant bit first; 0 from CWLEN codewords on (42_matrix_builder.md R207). -/
def State.cwbufBit (s : State) (idx : Nat) : Bool :=
  if idx < 8 * s.cwlen.toNat then (s.cwbuf (idx / 8)).getLsbD (7 - idx % 8) else false

/-- 42_matrix_builder.md R225 (d), and the same of a placed matrix: the data modules in PlaceOrder, un-masked when a mask is
applied, give back CWBUF followed by zero bits. -/
def State.codewordsHeld (s : State) : Prop :=
  (s.mstate = .placed →
    ∀ p ∈ (placeOrder s.latchedVersion).zipIdx, (s.moduleAt p.1.1 p.1.2).dark = s.cwbufBit p.2) ∧
  (s.mstate = .masked →
    ∀ p ∈ (placeOrder s.latchedVersion).zipIdx,
      ((s.moduleAt p.1.1 p.1.2).dark ^^ maskBit s.maskSel.toNat p.1.1 p.1.2) = s.cwbufBit p.2)

/-! ## The core's turn -/

/-- The core moves next, and `rest` is what the schedule then holds: no event is left, or a core event is at its head (log 1). -/
def State.coreNext (s : State) (rest : List Event) : Prop :=
  (s.inputs = [] ∧ rest = []) ∨ s.inputs = .core :: rest

/-! ## What a command may touch -/

/-- The operand registers, which the core only reads (10_state.md R21). -/
def State.operandRegs (s : State) : Bool × BitVec 6 × BitVec 2 × BitVec 12 × BitVec 12 × Word × Word × Word :=
  (s.colorEn, s.version, s.level, s.rsSrc, s.rsDst, s.colorR, s.colorG, s.colorB)

/-- The memories a command may write (20_memory.md R77). -/
def writtenRegions : Instr → List Region
  | .nop => []
  | .clear => []
  | .reset => []
  | .rsEncode _ _ => [.ebuf]
  | .eccSymbol => [.ebuf]
  | .matFrame => [.mat]
  | .matPlace => [.cwbuf, .mat]
  | .matEval _ => []
  | .matMask _ => [.mat]
  | .matBuild => [.cwbuf, .mat]
  | .pngWrite => [.obuf]

/-- The phases in which a command is allowed (70_reset_and_hazards.md R364). -/
def phaseAllowed : Instr → Phase → Bool
  | .matPlace, p => p != .empty
  | .matEval _, p => p == .placed
  | .matMask _, p => p == .placed
  | .pngWrite, p => p == .masked
  | .matFrame, _ => true
  | .matBuild, _ => true
  | .rsEncode _ _, _ => true
  | .eccSymbol, _ => true
  | .nop, _ => true
  | .clear, _ => true
  | .reset, _ => true

/-- MSTATE after the command has succeeded (70_reset_and_hazards.md R364). -/
def phaseAfter : Instr → Phase → Phase
  | .matFrame, _ => .framed
  | .matPlace, _ => .placed
  | .matEval _, _ => .placed
  | .matMask _, _ => .masked
  | .matBuild, _ => .masked
  | .pngWrite, _ => .masked
  | .rsEncode _ _, p => p
  | .eccSymbol, p => p
  | .nop, p => p
  | .clear, p => p
  | .reset, _ => .empty

/-- The address is that of a module (x, y) with x, y < `n` (20_memory.md R78). -/
def isModuleAddr (n a : Nat) : Prop := ∃ x y, x < n ∧ y < n ∧ a = matAddr x y

/-! ## Commands in sequence -/

/-- Run `f` on the next state, if there is one. -/
def thenRun (o : Host.Outcome State Fault Refusal) (f : State → Host.Outcome State Fault Refusal) :
    Host.Outcome State Fault Refusal :=
  match o with
  | .next s => f s
  | .fault r => .fault r
  | .refused r => .refused r

/-- A list of commands, one after the other. -/
def execAll : List Instr → State → Host.Outcome State Fault Refusal
  | [], s => .next s
  | i :: rest, s => thenRun (exec i s) (execAll rest)

/-- `k` steps of the machine. -/
def stepMany : Nat → State → Host.Outcome State Fault Refusal
  | 0, s => .next s
  | k + 1, s => thenRun (step s) (stepMany k)

/-- RS_ENCODE of block `j` of a symbol with RS_SRC = start(j) and RS_DST = j·n, the two registers put back after
(41_rs_encoder.md R166). -/
def encodeBlock (b : BlockSpec) (s : State) (j : Nat) : Host.Outcome State Fault Refusal :=
  mapNext (fun t => { t with rsSrc := s.rsSrc, rsDst := s.rsDst })
    (exec (.rsEncode b.n (b.len j))
      { s with rsSrc := BitVec.ofNat 12 (b.start j), rsDst := BitVec.ofNat 12 (j * b.n) })

/-- The blocks of a symbol one by one (41_rs_encoder.md R166). -/
def encodeBlocks (b : BlockSpec) : List Nat → State → Host.Outcome State Fault Refusal
  | [], s => .next s
  | j :: rest, s => thenRun (encodeBlock b s j) (encodeBlocks b rest)

/-! ## Polynomials over GF(256), highest power first -/

/-- The value of a polynomial at `x`. -/
def polyEval (p : List Byte) (x : Byte) : Byte := p.foldl (fun acc c => gmul acc x ^^^ c) 0

/-- The product of a polynomial `q` with `g`, as `q.length + g.length - 1` coefficients (g not empty). -/
def polyMul : List Byte → List Byte → List Byte
  | [], g => List.replicate (g.length - 1) 0
  | c :: q, g => List.zipWith (fun a b => a ^^^ b) (g.map (fun a => gmul a c) ++ List.replicate q.length 0) (0 :: polyMul q g)

/-! ## Reading a zlib stream of stored blocks -/

/-- Inflate stored blocks: the data and what follows the last block; none on any other block (43_png_writer.md R267). `fuel`
bounds the number of blocks. -/
def inflateStored : Nat → List Byte → Option (List Byte × List Byte)
  | fuel + 1, hdr :: l0 :: l1 :: n0 :: n1 :: rest =>
    let len := l0.toNat + 256 * l1.toNat
    if hdr.toNat ≤ 1 ∧ n0.toNat + 256 * n1.toNat = len ^^^ 0xFFFF ∧ len ≤ rest.length then
      if hdr = 1 then some (rest.take len, rest.drop len)
      else (inflateStored fuel (rest.drop len)).map fun r => (rest.take len ++ r.1, r.2)
    else none
  | _, _ => none

/-- Read a zlib stream: the header 78 01, stored blocks, and the Adler-32 of the data (43_png_writer.md R266). -/
def zlibRead (z : List Byte) : Option (List Byte) :=
  match z with
  | c :: f :: rest =>
    if c = 0x78 ∧ f = 0x01 then
      match inflateStored rest.length rest with
      | some (raw, tail) => if tail = bigEndian32 (adler32 raw) then some raw else none
      | none => none
    else none
  | _ => none

/-! ## Reading a PNG file -/

/-- Read one chunk: its type, its data and what follows it; none when the length runs past the end or the CRC field is not the
CRC-32 of type and data (43_png_writer.md R270). -/
def readChunk : List Byte → Option ((List Byte × List Byte) × List Byte)
  | l0 :: l1 :: l2 :: l3 :: rest =>
    let len := 16777216 * l0.toNat + 65536 * l1.toNat + 256 * l2.toNat + l3.toNat
    if len + 8 ≤ rest.length ∧
        (rest.drop (4 + len)).take 4 = bigEndian32 (crc32 (rest.take (4 + len))).toNat then
      some ((rest.take 4, (rest.drop 4).take len), rest.drop (len + 8))
    else none
  | _ => none

/-- Read chunks to the end, at most `fuel` of them. -/
def readChunks : Nat → List Byte → Option (List (List Byte × List Byte))
  | _, [] => some []
  | 0, _ :: _ => none
  | fuel + 1, bytes =>
    match readChunk bytes with
    | some (c, rest) => (readChunks fuel rest).map (c :: ·)
    | none => none

/-- Read a file of the signature and three chunks (43_png_writer.md R274): each chunk's type and data. -/
def readPng (file : List Byte) : Option (List (List Byte × List Byte)) :=
  if file.take 8 = [0x89, 0x50, 0x4E, 0x47, 0x0D, 0x0A, 0x1A, 0x0A] then readChunks 3 (file.drop 8) else none

end Sys2Proof.Machine
end

