-- ==== Sys2Proof/Certificates/Slice0/Obligations.lean ====
section
/-! DEFINITION. The statements for the provers, from the numbered rules of spec/. -/

open Sys2Proof Sys2Proof.Machine

/-! ## Encoding -/

/-- DECODE AND ENCODE AGREE (30_encoding.md R105, R106, R110): every well-formed command is read back from its word. -/
def Obligations.DecodeReadsEncodeBack : Prop :=
  ∀ i : Instr, i.wellFormed = true → decode (encode i) = .ok i

/-- No bit of a legal word is dropped (30_encoding.md R105, R107): a word that decodes is the word of the command it decodes to. -/
def Obligations.EncodeGivesDecodedWordBack : Prop :=
  ∀ (w : Word) (i : Instr), decode w = .ok i → i.wellFormed = true ∧ encode i = w

/-- 30_encoding.md R106: no two rows of the opcode map match the same word. -/
def Obligations.OpcodeRowsNeverOverlap : Prop :=
  opcodeTable.Pairwise fun r r' => ∀ w : Word, ¬(w &&& r.mask = r.pattern ∧ w &&& r'.mask = r'.pattern)

/-- 30_encoding.md R107: which words are illegal, four examples, and what an illegal word does at completion. -/
def Obligations.IllegalWordsFail : Prop :=
  (∀ w : Word, (∃ e, decode w = .error e) ↔
    (w.setWidth 8 : BitVec 8) ∉ [0x00, 0x01, 0x02, 0x10, 0x11, 0x20, 0x21, 0x22, 0x23, 0x24, 0x30] ∨
      ((w.setWidth 8 : BitVec 8) ∈ [0x00, 0x01, 0x02, 0x11, 0x20, 0x21, 0x24, 0x30] ∧ w.extractLsb' 8 24 ≠ 0) ∨
      ((w.setWidth 8 : BitVec 8) ∈ [0x22, 0x23] ∧ w.extractLsb' 11 21 ≠ 0) ∨
      ((w.setWidth 8 : BitVec 8) = 0x10 ∧ (w.extractLsb' 24 8 ≠ 0 ∨ w.extractLsb' 13 3 ≠ 0))) ∧
  (∀ w ∈ [(0x00000003 : Word), 0x00000100, 0x00000822, 0x00012010], ∃ e, decode w = .error e) ∧
  (∀ (s : State) (w : Word), s.busy = false →
    portAccess (.write32 0x10 w) s = (.ok, { s with pending := w, busy := true, done := false })) ∧
  (∀ (s : State) (rest : List Event) (e : DecodeError), s.busy = true → s.coreNext rest → decode s.pending = .error e →
    step s =
      if s.result = 0 then
        .next { s with
          inputs := rest, result := ResultKind.unexpectedInput.image, errcmd := s.pending, busy := false, done := true }
      else .next { s with inputs := rest, busy := false, done := true })

/-- Words written out from 30_encoding.md R101 to R103 decode to the commands they stand for. -/
def Obligations.WrittenWordsDecode : Prop :=
  decode 0x00000000 = .ok .nop ∧ decode 0x00000002 = .ok .reset ∧
    decode 0x00100A10 = .ok (.rsEncode 10 16) ∧ decode 0x00FF1F10 = .ok (.rsEncode 31 255) ∧
    decode 0x00000011 = .ok .eccSymbol ∧ decode 0x00000722 = .ok (.matEval 7) ∧
    decode 0x00000523 = .ok (.matMask 5) ∧ decode 0x00000030 = .ok .pngWrite

/-! ## Life cycle -/

/-- 40_system_commands.md R130: a write of any word to CMD while BUSY is 0 is accepted, and nothing else changes. -/
def Obligations.CommandWriteIsAccepted : Prop :=
  ∀ (s : State) (w : Word), s.busy = false →
    portAccess (.write32 0x10 w) s = (.ok, { s with pending := w, busy := true, done := false })

/-- A STEP RUNS THE DECODED COMMAND (40_system_commands.md R131, R133): with a command pending and the core to move, the step is
that command's meaning, then BUSY 0 and DONE 1. -/
def Obligations.StepRunsDecodedCommand : Prop :=
  ∀ (s : State) (i : Instr), s.busy = true → decode s.pending = .ok i →
    (s.inputs = [] →
      step s = thenRun (exec i s) fun t => .next { t with busy := false, done := true }) ∧
    (∀ rest, s.inputs = .core :: rest →
      step s = thenRun (exec i { s with inputs := rest }) fun t => .next { t with busy := false, done := true })

/-- The other steps: a host access, a hard reset, and a core with nothing pending, which stays as it is (the MODEL's choices of
logs 1 and 2, on 40_system_commands.md R131 and 70_reset_and_hazards.md R360, R368). -/
def Obligations.OtherEventsTakeEffect : Prop :=
  (∀ (s : State) (acc : Access) (rest : List Event), s.inputs = .host acc :: rest →
    step s = .next
      { (portAccess acc { s with inputs := rest }).2 with
        responses := (portAccess acc { s with inputs := rest }).1 :: s.responses }) ∧
  (∀ (s : State) (rest : List Event), s.inputs = .hardReset :: rest →
    ∃ t, step s = .next t ∧ (∀ r, readReg t r = readReg State.reset r) ∧ t.busy = false ∧ t.mem = [] ∧
      t.inputs = rest) ∧
  (∀ s : State, s.busy = false → s.inputs = [] → step s = .next s) ∧
  (∀ (s : State) (rest : List Event), s.busy = false → s.inputs = .core :: rest →
    step s = .next { s with inputs := rest })

/-- 40_system_commands.md R134: while RESULT is not 0 every word but those of CLEAR and RESET, illegal words included, is skipped:
nothing changes but BUSY and DONE. -/
def Obligations.CommandsAreSkippedAfterFailure : Prop :=
  ∀ (s : State) (rest : List Event), s.busy = true → s.coreNext rest → s.result ≠ 0 → s.pending ≠ 0x00000001 →
    s.pending ≠ 0x00000002 → step s = .next { s with inputs := rest, busy := false, done := true }

/-- 40_system_commands.md R135 and 60_exceptions.md R336, R339: a completion that records a failure writes RESULT with one of the
three kinds QRSB raises and ERRCMD with the pending word, ends the command, and changes nothing else. -/
def Obligations.FailureIsPrecise : Prop :=
  ∀ (s t : State) (rest : List Event), s.busy = true → s.coreNext rest → s.result = 0 → step s = .next t → t.result ≠ 0 →
    ∃ k ∈ [ResultKind.writeError, ResultKind.unexpectedInput, ResultKind.noSymbolProduced],
      t = { s with inputs := rest, result := k.image, errcmd := s.pending, busy := false, done := true } ∧
      (statusWord t).getLsbD 2 = true

/-- 40_system_commands.md R132, 70_reset_and_hazards.md R369: every step has an outcome, and it is a next state. -/
def Obligations.EveryStepGivesNextState : Prop :=
  ∀ s : State, ∃ t, step s = .next t

/-- 40_system_commands.md R131, R132: with no hard reset in the schedule the pending command completes, BUSY 0 and DONE 1; with
one, which loses the command (70_reset_and_hazards.md R360), BUSY falls all the same. The spec sets no bound: that it happens
within the schedule's length plus 1 is the MODEL's choice (log 1, DESIGN CHOICE). -/
def Obligations.PendingCommandCompletes : Prop :=
  (∀ s : State, s.busy = true → Event.hardReset ∉ s.inputs →
    ∃ k t, k ≤ s.inputs.length + 1 ∧ stepMany k s = .next t ∧ t.busy = false ∧ t.done = true) ∧
  (∀ s : State, s.busy = true → ∃ k t, k ≤ s.inputs.length + 1 ∧ stepMany k s = .next t ∧ t.busy = false)

/-! ## System commands -/

/-- 40_system_commands.md R137: NOP's word, its meaning, and the example from reset. -/
def Obligations.NopChangesNothing : Prop :=
  encode .nop = 0x00000000 ∧ (∀ s : State, exec .nop s = .next s) ∧
    (∃ t, step (State.reset.withFetchWord 32 0) = .next t ∧ statusWord t = 0x00000002 ∧
      t = { State.reset with done := true })

/-- 40_system_commands.md R138: CLEAR in every state, its exact word, and that 0x00000101 is no command. -/
def Obligations.ClearEndsFailedState : Prop :=
  (∀ s : State, exec .clear s = .next { s with result := 0, errcmd := 0, haz := false }) ∧
    (∀ w : Word, decode w = .ok .clear ↔ w = 0x00000001) ∧ (∃ e, decode 0x00000101 = .error e) ∧
    (∀ s : State, s.result ≠ 0 → s.pending = 0x00000101 → complete s = .next s)

/-- 40_system_commands.md R139: RESET in every state gives every register its reset value and keeps the memories (PENDING is no
register), and STATUS reads 0x00000002 after its completion. -/
def Obligations.ResetRestoresRegisters : Prop :=
  encode .reset = 0x00000002 ∧ statusWord State.reset = 0x00000000 ∧
  (∀ s : State, ∃ t, exec .reset s = .next t ∧
    t = { State.reset with
          pending := t.pending, mem := s.mem, epoch := s.epoch, draws := s.draws, inputs := s.inputs,
          responses := s.responses }) ∧
  (∀ (s : State) (rest : List Event), s.busy = true → s.coreNext rest → s.pending = 0x00000002 →
    ∃ t, step s = .next t ∧ statusWord t = 0x00000002 ∧ (∀ a, t.byteAt a = s.byteAt a) ∧ t.inputs = rest)

/-! ## The RS unit -/

/-- 41_rs_encoder.md R152: the product is a field's: commutative, associative, distributive over the exclusive or, with 0, 1 and
inverses. -/
def Obligations.GaloisFieldLaws : Prop :=
  (∀ a b : Byte, gmul a b = gmul b a) ∧
  (∀ a b c : Byte, gmul (gmul a b) c = gmul a (gmul b c)) ∧
  (∀ a b c : Byte, gmul a (b ^^^ c) = gmul a b ^^^ gmul a c) ∧
  (∀ a : Byte, gmul 0 a = 0 ∧ gmul 1 a = a) ∧
  (∀ a : Byte, a ≠ 0 → ∃ b, gmul a b = 1)

/-- 41_rs_encoder.md R153: the powers of α are the non-zero elements, each once, and products add logarithms. -/
def Obligations.PowersOfAlphaGiveProducts : Prop :=
  (∀ i j : Nat, i < 255 → j < 255 → expAlpha i = expAlpha j → i = j) ∧
  (∀ e : Byte, e ≠ 0 → ∃ i, i < 255 ∧ logAlpha e = some i ∧ expAlpha i = e) ∧
  expAlpha 255 = 0x01 ∧
  (∀ (a b : Byte) (i j : Nat), logAlpha a = some i → logAlpha b = some j → gmul a b = expAlpha ((i + j) % 255))

/-- 41_rs_encoder.md R154: the generator polynomial of degree n is monic, has n + 1 coefficients, and vanishes at α^0 to
α^(n-1). -/
def Obligations.GeneratorHasItsRoots : Prop :=
  ∀ n : Nat, (genPoly n).length = n + 1 ∧ (genPoly n).headD 0 = 0x01 ∧
    ∀ i, i < n → polyEval (genPoly n) (expAlpha i) = 0

/-- 41_rs_encoder.md R155: RSENC(d, n) is the remainder of D(x)·x^n by g_n(x), n bytes, highest power first: the block followed by
it is a multiple of the generator polynomial. -/
def Obligations.RsencIsTheRemainder : Prop :=
  ∀ (d : List Byte) (n : Nat), d ≠ [] → 1 ≤ n →
    (rsenc d n).length = n ∧ ∃ q : List Byte, q.length = d.length ∧ d ++ rsenc d n = polyMul q (genPoly n)

/-- 41_rs_encoder.md R157 (a): the codeword polynomial vanishes at every root of the generator. -/
def Obligations.CodewordVanishesAtRoots : Prop :=
  ∀ (d : List Byte) (n i : Nat), i < n → polyEval (d ++ rsenc d n) (expAlpha i) = 0

/-- 41_rs_encoder.md R157 (b): RSENC is linear. -/
def Obligations.RsencIsLinear : Prop :=
  ∀ (d d' : List Byte) (n : Nat), d.length = d'.length →
    rsenc (List.zipWith (fun a b => a ^^^ b) d d') n = List.zipWith (fun a b => a ^^^ b) (rsenc d n) (rsenc d' n)

/-- 41_rs_encoder.md R157 (c), (d), (e): the zero block, leading zeros, and the one-byte block 01. -/
def Obligations.RsencOfSpecialBlocks : Prop :=
  ∀ n : Nat, 1 ≤ n →
    (∀ k, rsenc (List.replicate k 0) n = List.replicate n 0) ∧
    (∀ d, rsenc (0 :: d) n = rsenc d n) ∧
    rsenc [0x01] n = (genPoly n).tail

/-- 41_rs_encoder.md R165: RS_ENCODE's word; with its four preconditions met stores the n EC codewords at EBUF[DST] and changes nothing
else; otherwise it fails with UnexpectedInput. -/
def Obligations.RsEncodeStoresCodewords : Prop :=
  (∀ n k : Nat, n < 32 → k < 256 → (encode (.rsEncode n k)).toNat = 0x10 + 256 * n + 65536 * k) ∧
  (∀ (s : State) (n k : Nat), s.result = 0 → 1 ≤ n → n ≤ 30 → 1 ≤ k → k + n ≤ 255 →
    s.rsSrc.toNat + k ≤ 4096 → s.rsDst.toNat + n ≤ 4096 →
    ∃ t, exec (.rsEncode n k) s = .next t ∧ t = { s with mem := t.mem } ∧
      (∀ j, j < n → t.ebuf (s.rsDst.toNat + j) =
        (rsenc ((List.range k).map fun i => s.dbuf (s.rsSrc.toNat + i)) n).getD j 0) ∧
      (∀ a, ¬(Config.ebufBase + s.rsDst.toNat ≤ a ∧ a < Config.ebufBase + s.rsDst.toNat + n) →
        t.byteAt a = s.byteAt a)) ∧
  (∀ (s : State) (n k : Nat), s.result = 0 →
    ¬((1 ≤ n ∧ n ≤ 30) ∧ (1 ≤ k ∧ k + n ≤ 255) ∧ s.rsSrc.toNat + k ≤ 4096 ∧ s.rsDst.toNat + n ≤ 4096) →
    exec (.rsEncode n k) s =
      .next { s with result := ResultKind.unexpectedInput.image, errcmd := s.pending })

/-- 41_rs_encoder.md R166: ECC_SYMBOL with a legal Version stores the EC codewords of every block, block j at j·n, and changes
nothing else; otherwise it fails with UnexpectedInput. -/
def Obligations.EccSymbolStoresEveryBlock : Prop :=
  (∀ (s : State) (b : BlockSpec), s.result = 0 → 1 ≤ s.version.toNat → s.version.toNat ≤ 40 →
    b = blockSpec s.version.toNat s.level.toNat →
    ∃ t, exec .eccSymbol s = .next t ∧ t = { s with mem := t.mem } ∧
      (∀ j i, j < b.nb → i < b.n → t.ebuf (j * b.n + i) =
        (rsenc ((List.range (b.len j)).map fun q => s.dbuf (b.start j + q)) b.n).getD i 0) ∧
      (∀ a, ¬(Config.ebufBase ≤ a ∧ a < Config.ebufBase + b.nb * b.n) → t.byteAt a = s.byteAt a)) ∧
  (∀ s : State, s.result = 0 → ¬(1 ≤ s.version.toNat ∧ s.version.toNat ≤ 40) →
    exec .eccSymbol s = .next { s with result := ResultKind.unexpectedInput.image, errcmd := s.pending })

/-- 41_rs_encoder.md R166: ECC_SYMBOL is equivalent to one RS_ENCODE for each block, with RS_SRC = start(j), RS_DST = j·n. -/
def Obligations.EccSymbolEqualsBlockByBlock : Prop :=
  ∀ s : State, s.result = 0 → 1 ≤ s.version.toNat → s.version.toNat ≤ 40 →
    ∃ t u, exec .eccSymbol s = .next t ∧
      encodeBlocks (blockSpec s.version.toNat s.level.toNat)
        (List.range (blockSpec s.version.toNat s.level.toNat).nb) s = .next u ∧
      u = { t with mem := u.mem } ∧ ∀ a, u.byteAt a = t.byteAt a

/-! ## The MAT unit -/

/-- 42_matrix_builder.md R202: WriteFormat sets the `dark` bit of both positions of every bit of the word and changes no other
module and no `func` bit. -/
def Obligations.WriteFormatSpellsWord : Prop :=
  ∀ (f : Nat → Nat → QrModule) (s : Nat) (w : BitVec 15), 21 ≤ s →
    (∀ c ∈ formatCells s, (matGet (writeFormat (matTabulate s f) s w) c.1.1 c.1.2).dark = w.getLsbD c.2) ∧
    (∀ x y, x < s → y < s →
      (matGet (writeFormat (matTabulate s f) s w) x y).func = (f x y).func ∧
      (isFormat s x y = false → matGet (writeFormat (matTabulate s f) s w) x y = f x y))

/-- 42_matrix_builder.md R206: PlaceOrder(V) lists the data modules of Frame(V), each once. -/
def Obligations.PlaceOrderListsDataModules : Prop :=
  ∀ v, 1 ≤ v → v ≤ 40 →
    (placeOrder v).Nodup ∧
    ∀ x y, (x, y) ∈ placeOrder v ↔ x < side v ∧ y < side v ∧ (frameModule v x y).func = false

/-- 42_matrix_builder.md R206, R207, 45_rom_tables.md R310: PlaceOrder(V) has 8·T(V) + rembits(V) entries, rembits(V) is as
listed, and T at the two ends is 26 and 3706. -/
def Obligations.PlaceOrderHasItsLength : Prop :=
  totalCodewords 1 = 26 ∧ totalCodewords 40 = 3706 ∧
  ∀ v, 1 ≤ v → v ≤ 40 →
    (placeOrder v).length = 8 * totalCodewords v + remainderBits v ∧
    remainderBits v =
      if 2 ≤ v ∧ v ≤ 6 then 7
      else if (14 ≤ v ∧ v ≤ 20) ∨ (28 ≤ v ∧ v ≤ 34) then 3
      else if 21 ≤ v ∧ v ≤ 27 then 4
      else 0

/-- 42_matrix_builder.md R207, R208: Place gives entry idx of PlaceOrder bit 7 - (idx mod 8) of codeword idx div 8, makes the 30
format modules light, and changes no other module and no `func` bit. -/
def Obligations.PlaceWritesDataAndFormat : Prop :=
  ∀ (v : Nat) (f : Nat → Nat → QrModule) (cw : List Byte), 1 ≤ v → v ≤ 40 →
    (∀ p ∈ (placeOrder v).zipIdx, matGet (place v (matTabulate (side v) f) cw) p.1.1 p.1.2 =
      { f p.1.1 p.1.2 with dark := (cw.getD (p.2 / 8) 0).getLsbD (7 - p.2 % 8) }) ∧
    (∀ c ∈ formatCells (side v), matGet (place v (matTabulate (side v) f) cw) c.1.1 c.1.2 =
      { f c.1.1 c.1.2 with dark := false }) ∧
    (∀ x y, x < side v → y < side v → (x, y) ∉ placeOrder v → isFormat (side v) x y = false →
      matGet (place v (matTabulate (side v) f) cw) x y = f x y)

/-- 42_matrix_builder.md R215: the penalty of a symbol is below 2^23, so PENm holds it exactly. -/
def Obligations.PenaltyFitsRegister : Prop :=
  ∀ (m : Matrix) (s : Nat), 21 ≤ s → s ≤ 177 → penalty m s < 2 ^ 23

/-- 42_matrix_builder.md R216: the selected mask has the least score, and is the smallest index that has it. -/
def Obligations.SelectionIsSmallestMinimum : Prop :=
  ∀ p : Nat → Nat, selectMask p < 8 ∧ (∀ m, m < 8 → p (selectMask p) ≤ p m) ∧
    ∀ m, m < selectMask p → p (selectMask p) < p m

/-- 42_matrix_builder.md R220: MAT_FRAME with a legal Version writes the frame and blank modules around it, MCFG, the phase, and
drops the scores and CWLEN; nothing else changes. With another Version it fails with UnexpectedInput. -/
def Obligations.MatFrameWritesFrame : Prop :=
  encode .matFrame = 0x00000020 ∧
  (∀ s : State, s.result = 0 → 1 ≤ s.version.toNat → s.version.toNat ≤ 40 →
    ∃ t, exec .matFrame s = .next t ∧
      t = { s with
            mem := t.mem, mver := s.version, msize := BitVec.ofNat 8 (4 * s.version.toNat + 17), mlevel := 0,
            mstate := .framed, penv := 0, pen := Vector.replicate 8 0, maskSel := 0, penSel := 0, cwlen := 0 } ∧
      (∀ x y, x < 177 → y < 177 → t.moduleAt x y =
        if x < 4 * s.version.toNat + 17 ∧ y < 4 * s.version.toNat + 17 then frameModule s.version.toNat x y
        else ⟨false, false⟩) ∧
      (∀ a, ¬isModuleAddr 177 a → t.byteAt a = s.byteAt a)) ∧
  (∀ s : State, s.result = 0 → ¬(1 ≤ s.version.toNat ∧ s.version.toNat ≤ 40) →
    exec .matFrame s = .next { s with result := ResultKind.unexpectedInput.image, errcmd := s.pending })

/-- 42_matrix_builder.md R205, R221: MAT_PLACE on a framed matrix of a legal Version writes CWBUF and CWLEN, the data modules in
PlaceOrder, light format modules, MLEVEL and the phase, and drops the scores; nothing else changes. CWBUF holds the data codewords
column by column across the blocks, the last column of the longer blocks only, then the EC codewords column by column. With no
frame it fails with NoSymbolProduced. -/
def Obligations.MatPlaceWritesCodewords : Prop :=
  (∀ (s : State) (v : Nat) (b : BlockSpec) (cw : List Byte), s.result = 0 → s.mstate ≠ .empty → v = s.mver.toNat → 1 ≤ v →
    v ≤ 40 → b = blockSpec v s.level.toNat → cw = interleave b s →
    ∃ t, exec .matPlace s = .next t ∧
      t = { s with
            mem := t.mem, cwlen := BitVec.ofNat 12 (totalCodewords v), mlevel := s.level, mstate := .placed, penv := 0,
            pen := Vector.replicate 8 0, maskSel := 0, penSel := 0 } ∧
      cw.length = totalCodewords v ∧ (∀ i, i < totalCodewords v → t.cwbuf i = cw.getD i 0) ∧
      (∀ j i, j < b.nb → i < b.len j →
        t.cwbuf (if i < b.k1 then i * b.nb + j else b.k1 * b.nb + (j - b.b1)) = s.dbuf (b.start j + i)) ∧
      (∀ j i, j < b.nb → i < b.n → t.cwbuf (b.dataLen + i * b.nb + j) = s.ebuf (j * b.n + i)) ∧
      (∀ p ∈ (placeOrder v).zipIdx, t.moduleAt p.1.1 p.1.2 =
        { s.moduleAt p.1.1 p.1.2 with dark := (cw.getD (p.2 / 8) 0).getLsbD (7 - p.2 % 8) }) ∧
      (∀ c ∈ formatCells (side v), t.moduleAt c.1.1 c.1.2 = { s.moduleAt c.1.1 c.1.2 with dark := false }) ∧
      (∀ x y, x < side v → y < side v → (x, y) ∉ placeOrder v → isFormat (side v) x y = false →
        t.moduleAt x y = s.moduleAt x y) ∧
      (∀ a, ¬(Config.cwbufBase ≤ a ∧ a < Config.cwbufBase + totalCodewords v) → ¬isModuleAddr (side v) a →
        t.byteAt a = s.byteAt a)) ∧
  (∀ s : State, s.result = 0 → s.mstate = .empty →
    exec .matPlace s = .next { s with result := ResultKind.noSymbolProduced.image, errcmd := s.pending })

/-- 42_matrix_builder.md R222: MAT_EVAL on a placed matrix writes the candidate's score to PENm and sets its PENV bit; nothing else
changes. In another phase it fails with NoSymbolProduced. -/
def Obligations.MatEvalScoresCandidate : Prop :=
  (∀ m : Nat, m < 8 → (encode (.matEval m)).toNat = 0x22 + 256 * m) ∧
  (∀ (s : State) (m : Nat), s.result = 0 → s.mstate = .placed → m < 8 →
    ∃ t, exec (.matEval m) s = .next t ∧ t = { s with pen := t.pen, penv := t.penv } ∧
      t.penAt m = BitVec.ofNat 32
        (penalty (masked (s.readMatrix s.msize.toNat) s.msize.toNat s.mlevel.toNat m) s.msize.toNat) ∧
      t.penv.getLsbD m = true ∧
      ∀ j, j < 8 → j ≠ m → t.penAt j = s.penAt j ∧ t.penv.getLsbD j = s.penv.getLsbD j) ∧
  (∀ (s : State) (m : Nat), s.result = 0 → s.mstate ≠ .placed →
    exec (.matEval m) s = .next { s with result := ResultKind.noSymbolProduced.image, errcmd := s.pending })

/-- 42_matrix_builder.md R209, R210, R223: MAT_MASK on a placed matrix inverts the data modules the mask names, writes the format
word in both copies, keeps every other module, scores the new matrix, and sets MASK_SEL, PEN_SEL and the phase; nothing else
changes. In another phase it fails with NoSymbolProduced. -/
def Obligations.MatMaskAppliesMask : Prop :=
  (∀ m : Nat, m < 8 → (encode (.matMask m)).toNat = 0x23 + 256 * m) ∧
  (∀ (s : State) (m n : Nat), s.result = 0 → s.mstate = .placed → m < 8 → n = s.msize.toNat → 21 ≤ n → n ≤ 177 →
    ∃ t, exec (.matMask m) s = .next t ∧
      t = { s with
            mem := t.mem, pen := t.pen, penv := t.penv, maskSel := BitVec.ofNat 3 m, penSel := t.penAt m,
            mstate := .masked } ∧
      (∀ x y, x < n → y < n → isFormat n x y = false → t.moduleAt x y =
        if (s.moduleAt x y).func then s.moduleAt x y
        else ⟨(s.moduleAt x y).dark ^^ maskBit m x y, false⟩) ∧
      (∀ c ∈ formatCells n, t.moduleAt c.1.1 c.1.2 =
        ⟨(formatWord s.mlevel.toNat m).getLsbD c.2, (s.moduleAt c.1.1 c.1.2).func⟩) ∧
      t.penAt m = BitVec.ofNat 32 (penalty (t.readMatrix n) n) ∧ t.penv.getLsbD m = true ∧
      (∀ j, j < 8 → j ≠ m → t.penAt j = s.penAt j ∧ t.penv.getLsbD j = s.penv.getLsbD j) ∧
      (∀ a, ¬isModuleAddr n a → t.byteAt a = s.byteAt a)) ∧
  (∀ (s : State) (m : Nat), s.result = 0 → s.mstate ≠ .placed →
    exec (.matMask m) s = .next { s with result := ResultKind.noSymbolProduced.image, errcmd := s.pending })

/-- 42_matrix_builder.md R224: MAT_BUILD with a legal Version leaves the state of MAT_FRAME, MAT_PLACE, the eight MAT_EVAL and
MAT_MASK of the smallest mask of least score, given one after the other. With another Version it fails with UnexpectedInput. -/
def Obligations.MatBuildEqualsSequence : Prop :=
  (∀ s : State, s.result = 0 → 1 ≤ s.version.toNat → s.version.toNat ≤ 40 →
    ∃ t u sel, exec .matBuild s = .next u ∧
      execAll ([.matFrame, .matPlace] ++ (List.range 8).map .matEval) s = .next t ∧
      exec (.matMask sel) t = .next u ∧ sel < 8 ∧
      (∀ m, m < 8 → (t.penAt sel).toNat ≤ (t.penAt m).toNat) ∧
      (∀ m, m < sel → (t.penAt sel).toNat < (t.penAt m).toNat) ∧
      (∀ m, m < 8 → u.penAt m = t.penAt m) ∧
      u.mver = s.version ∧ u.mlevel = s.level ∧ u.penv = 0xFF ∧ u.maskSel = BitVec.ofNat 3 sel ∧
      u.penSel = u.penAt sel ∧ u.mstate = .masked ∧ u.operandRegs = s.operandRegs ∧
      u.olen = s.olen ∧ u.ovalid = s.ovalid ∧ u.result = 0 ∧ u.errcmd = s.errcmd ∧ u.haz = s.haz ∧
      (∀ a, regionOf a ≠ .mat → regionOf a ≠ .cwbuf → u.byteAt a = s.byteAt a)) ∧
  (∀ s : State, s.result = 0 → ¬(1 ≤ s.version.toNat ∧ s.version.toNat ≤ 40) →
    exec .matBuild s = .next { s with result := ResultKind.unexpectedInput.image, errcmd := s.pending })

/-- 70_reset_and_hazards.md R364: a command given in a phase that does not allow it fails with NoSymbolProduced and changes nothing
else, and one that succeeds leaves the phase of the table. -/
def Obligations.PhaseOrderIsChecked : Prop :=
  (∀ (i : Instr) (s : State), s.result = 0 → phaseAllowed i s.mstate = false →
    exec i s = .next { s with result := ResultKind.noSymbolProduced.image, errcmd := s.pending }) ∧
  (∀ (i : Instr) (s : State), s.result = 0 → phaseAllowed i s.mstate = true →
    ∃ t, exec i s = .next t ∧ t.result ≠ ResultKind.noSymbolProduced.image ∧
      (t.result = 0 → t.mstate = phaseAfter i s.mstate))

/-! ## The PNG unit -/

/-- 43_png_writer.md R265, R275: the length of the stream PNG_WRITE produces, and the longest one. -/
def Obligations.PngStreamHasItsLength : Prop :=
  ∀ (s : State) (w bpp : Nat), w = s.msize.toNat + 8 → bpp = (if s.colorEn then 3 else 1) →
    (rawStream (s.readMatrix s.msize.toNat) s.msize.toNat s.colourMode).length = w * (1 + w * bpp) ∧
    s.pngBytes.length = w * (1 + w * bpp) + 5 * ((w * (1 + w * bpp) + 65534) / 65535) + 63 ∧
    (s.msize.toNat ≤ 177 → s.pngBytes.length ≤ 102933)

/-- 43_png_writer.md R261, R263, R264: scanline py begins with the filter byte 0, and pixel (px, py) stands at its place with the
dark or the light bytes; of a state, these are 00 and FF in grayscale, and COLOR_R, COLOR_G, COLOR_B and FF FF FF in RGB. -/
def Obligations.RawStreamShowsPixels : Prop :=
  (∀ (m : Matrix) (n : Nat) (c : ColourMode), c.dark.length = c.bpp → c.light.length = c.bpp →
    ∀ py, py < n + 8 →
      (rawStream m n c).getD (py * (1 + (n + 8) * c.bpp)) 0xFF = 0x00 ∧
      ∀ px i, px < n + 8 → i < c.bpp →
        (rawStream m n c).getD (py * (1 + (n + 8) * c.bpp) + 1 + px * c.bpp + i) 0 =
          (if 4 ≤ px ∧ 4 ≤ py ∧ px - 4 < n ∧ py - 4 < n ∧ (matGet m (px - 4) (py - 4)).dark = true then c.dark
            else c.light).getD i 0) ∧
  (∀ (s : State) (n px py : Nat), n = s.msize.toNat → px < n + 8 → py < n + 8 →
    (s.colorEn = false →
      (rawStream (s.readMatrix n) n s.colourMode).getD (py * (n + 9) + 1 + px) 0x55 =
        if 4 ≤ px ∧ px < n + 4 ∧ 4 ≤ py ∧ py < n + 4 ∧ (s.moduleAt (px - 4) (py - 4)).dark = true then 0x00 else 0xFF) ∧
    (s.colorEn = true → ∀ i, i < 3 →
      (rawStream (s.readMatrix n) n s.colourMode).getD (py * (3 * n + 25) + 1 + 3 * px + i) 0x55 =
        if 4 ≤ px ∧ px < n + 4 ∧ 4 ≤ py ∧ py < n + 4 ∧ (s.moduleAt (px - 4) (py - 4)).dark = true then
          [s.colorR.extractLsb' 0 8, s.colorG.extractLsb' 0 8, s.colorB.extractLsb' 0 8].getD i 0
        else 0xFF))

/-- 43_png_writer.md R266 to R268, R277 (d): reading the zlib stream of any data gives the data back. -/
def Obligations.ZlibStreamReadsBack : Prop :=
  ∀ raw : List Byte, raw ≠ [] → zlibRead (zlibStream raw) = some raw

/-- 43_png_writer.md R276: PNG_WRITE with its preconditions met stores the stream at OBUF[0], its length in OLEN and sets OVALID;
nothing else changes. The first precondition that does not hold, in the order phase, colour, size, decides the failure; with a
symbol of a legal size the stream always fits. -/
def Obligations.PngWriteStoresStream : Prop :=
  encode .pngWrite = 0x00000030 ∧ (∀ s : State, s.msize.toNat ≤ 177 → s.pngBytes.length ≤ 131072) ∧
  (∀ s : State, s.result = 0 → s.mstate = .masked →
    (s.colorEn = true → s.colorR.toNat ≤ 255 ∧ s.colorG.toNat ≤ 255 ∧ s.colorB.toNat ≤ 255) →
    s.pngBytes.length ≤ 131072 →
    ∃ t, exec .pngWrite s = .next t ∧ t = { s with mem := t.mem, olen := t.olen, ovalid := true } ∧
      t.olen.toNat = s.pngBytes.length ∧
      (∀ i, i < s.pngBytes.length → t.obuf i = s.pngBytes.getD i 0) ∧
      (∀ a, ¬(Config.obufBase ≤ a ∧ a < Config.obufBase + s.pngBytes.length) → t.byteAt a = s.byteAt a)) ∧
  (∀ s : State, s.result = 0 → s.mstate ≠ .masked →
    exec .pngWrite s = .next { s with result := ResultKind.noSymbolProduced.image, errcmd := s.pending }) ∧
  (∀ s : State, s.result = 0 → s.mstate = .masked → s.colorEn = true →
    ¬(s.colorR.toNat ≤ 255 ∧ s.colorG.toNat ≤ 255 ∧ s.colorB.toNat ≤ 255) →
    exec .pngWrite s = .next { s with result := ResultKind.unexpectedInput.image, errcmd := s.pending }) ∧
  (∀ s : State, s.result = 0 → s.mstate = .masked →
    (s.colorEn = true → s.colorR.toNat ≤ 255 ∧ s.colorG.toNat ≤ 255 ∧ s.colorB.toNat ≤ 255) →
    131072 < s.pngBytes.length →
    exec .pngWrite s = .next { s with result := ResultKind.writeError.image, errcmd := s.pending })

/-- 43_png_writer.md R276, 60_exceptions.md R330: with a symbol of a legal size WriteError cannot happen. -/
def Obligations.WriteErrorCannotHappen : Prop :=
  ∀ (i : Instr) (s : State), s.result = 0 → s.configLegal →
    ∃ t, exec i s = .next t ∧ t.result ≠ ResultKind.writeError.image

/-- 43_png_writer.md R271, R277 (c): bytes 16 to 19 and 20 to 23 of OBUF both spell 4·MVER + 25, most significant byte first; then
come bit depth 8, the colour type, three zero bytes, and the CRC-32 of IHDR's type and data. -/
def Obligations.PngHeaderSpellsWidth : Prop :=
  ∀ s : State, s.result = 0 → s.mstate = .masked → s.configLegal → s.coloursLegal = true →
    ∃ t, exec .pngWrite s = .next t ∧
      (∀ base ∈ [16, 20], t.obuf base = 0 ∧ t.obuf (base + 1) = 0 ∧ t.obuf (base + 2) = 0 ∧
        (t.obuf (base + 3)).toNat = 4 * s.mver.toNat + 25) ∧
      t.obuf 24 = 8 ∧ t.obuf 25 = (if s.colorEn then 2 else 0) ∧ t.obuf 26 = 0 ∧ t.obuf 27 = 0 ∧ t.obuf 28 = 0 ∧
      t.bytesAt (Config.obufBase + 29) 4 = bigEndian32 (crc32 (t.bytesAt (Config.obufBase + 12) 17)).toNat

/-- 43_png_writer.md R269, R270, R272 to R274, R277 (d), (e): a reader that checks the signature, every chunk's length and every
chunk's CRC field reads OBUF[0 .. OLEN-1] after PNG_WRITE as IHDR, one IDAT whose data inflates to the raw stream, and IEND; the
CRC-32 has the two known values. -/
def Obligations.PngFileReadsBack : Prop :=
  (∀ (s : State) (n : Nat), s.result = 0 → s.mstate = .masked → s.configLegal → s.coloursLegal = true → n = s.msize.toNat →
    ∃ t z, exec .pngWrite s = .next t ∧
      readPng (t.bytesAt Config.obufBase t.olen.toNat) = some
        [([0x49, 0x48, 0x44, 0x52],
            [0, 0, 0, BitVec.ofNat 8 (n + 8), 0, 0, 0, BitVec.ofNat 8 (n + 8), 8, if s.colorEn then 2 else 0, 0, 0, 0]),
          ([0x49, 0x44, 0x41, 0x54], z), ([0x49, 0x45, 0x4E, 0x44], [])] ∧
      zlibRead z = some (rawStream (s.readMatrix n) n s.colourMode)) ∧
  crc32 [0x31, 0x32, 0x33, 0x34, 0x35, 0x36, 0x37, 0x38, 0x39] = 0xCBF43926 ∧
  crc32 [0x49, 0x45, 0x4E, 0x44] = 0xAE426082

/-- 43_png_writer.md R277 (a), (b): PNG_WRITE's output depends on the `dark` bits, MSIZE, COLOR_EN and, with COLOR_EN 1, the colours
alone. -/
def Obligations.PngOutputDependsOnInputsAlone : Prop :=
  ∀ s s' : State, s.result = 0 → s'.result = 0 → s.mstate = .masked → s'.mstate = .masked →
    s.configLegal → s.coloursLegal = true → s'.msize = s.msize → s'.colorEn = s.colorEn →
    (s.colorEn = true → s'.colorR = s.colorR ∧ s'.colorG = s.colorG ∧ s'.colorB = s.colorB) →
    (∀ x y, x < s.msize.toNat → y < s.msize.toNat → (s'.moduleAt x y).dark = (s.moduleAt x y).dark) →
    ∃ t t', exec .pngWrite s = .next t ∧ exec .pngWrite s' = .next t' ∧ t'.olen = t.olen ∧
      ∀ i, i < t.olen.toNat → t'.obuf i = t.obuf i

/-! ## What commands may touch -/

/-- 20_memory.md R77, 10_state.md R21: a command writes no memory but those named for it, and no command but RESET changes an
operand register. -/
def Obligations.CommandsTouchOnlyTheirOwn : Prop :=
  (∀ (i : Instr) (s : State), ∃ t, exec i s = .next t ∧
    ∀ a, regionOf a ∉ writtenRegions i → t.byteAt a = s.byteAt a) ∧
  (∀ (i : Instr) (s t : State), i ≠ .reset → exec i s = .next t → t.operandRegs = s.operandRegs)

/-- 10_state.md R41: a change of VERSION or LEVEL after the frame or the placement does not change what MAT_EVAL, MAT_MASK and
PNG_WRITE do, nor a change of VERSION what MAT_PLACE does. -/
def Obligations.LatchedConfigShieldsMatrix : Prop :=
  (∀ (i : Instr) (s : State) (v : BitVec 6) (l : BitVec 2),
    ((∃ m, i = .matEval m) ∨ (∃ m, i = .matMask m) ∨ i = .pngWrite) →
    exec i { s with version := v, level := l } =
      thenRun (exec i s) fun t => .next { t with version := v, level := l }) ∧
  (∀ (s : State) (v : BitVec 6),
    exec .matPlace { s with version := v } = thenRun (exec .matPlace s) fun t => .next { t with version := v })

/-! ## The host port -/

/-- 20_memory.md R75: a bus error changes no state. -/
def Obligations.BusErrorChangesNothing : Prop :=
  ∀ (acc : Access) (s : State), (portAccess acc s).1 = .err → (portAccess acc s).2 = s

/-- 40_system_commands.md R140: while BUSY is 1 a write the port would accept is discarded and sets HAZ, an illegal one gets ERR and
changes nothing; HAZ stays until CLEAR or RESET, and no other command looks at it. -/
def Obligations.BusyWritesAreDiscarded : Prop :=
  (∀ (s : State) (a : BitVec 18) (v : Word), s.busy = true →
    portAccess (.write32 a v) s =
      if a.toNat ∈ [0x04, 0x10, 0x18, 0x1C, 0x20, 0x24, 0x28, 0x2C, 0x30] then (.ok, { s with haz := true })
      else (.err, s)) ∧
  (∀ (s : State) (a : BitVec 18) (v : Byte), s.busy = true →
    portAccess (.write8 a v) s =
      if 0x01000 ≤ a.toNat ∧ a.toNat < 0x03000 then (.ok, { s with haz := true }) else (.err, s)) ∧
  (∀ (i : Instr) (s : State) (h : Bool), i ≠ .clear → i ≠ .reset →
    exec i { s with haz := h } = thenRun (exec i s) fun t => .next { t with haz := h }) ∧
  (∀ (acc : Access) (s : State), s.haz = true → (portAccess acc s).2.haz = true)

/-- 10_state.md R24, 20_memory.md R71, R72: a host write to an RW register is read back with the bits that fit its field, and every
other register keeps its value. -/
def Obligations.RegisterWriteIsReadBack : Prop :=
  ∀ (s : State) (v : Word), s.busy = false →
    ∀ p ∈ [(Reg.ctrl, 0x04, 1), (.version, 0x18, 6), (.level, 0x1C, 2), (.rsSrc, 0x20, 12), (.rsDst, 0x24, 12),
        (.colorR, 0x28, 32), (.colorG, 0x2C, 32), (.colorB, 0x30, 32)],
      ∃ t, portAccess (.write32 (BitVec.ofNat 18 p.2.1) v) s = (.ok, t) ∧
        portAccess (.read32 (BitVec.ofNat 18 p.2.1)) t = (.okWord (BitVec.ofNat 32 (v.toNat % 2 ^ p.2.2)), t) ∧
        (∀ r : Reg, r ≠ p.1 → readReg t r = readReg s r) ∧ t.mem = s.mem ∧ t.busy = false

/-- 20_memory.md R73, R74: a byte the host writes to DBUF or EBUF while BUSY is 0 is read back, and every other byte and every
register keep their values. -/
def Obligations.BufferWriteIsReadBack : Prop :=
  ∀ (s : State) (a : BitVec 18) (v : Byte), s.busy = false → 0x01000 ≤ a.toNat → a.toNat < 0x03000 →
    ∃ t, portAccess (.write8 a v) s = (.ok, t) ∧ portAccess (.read8 a) t = (.okByte v, t) ∧
      t = { s with mem := t.mem } ∧ ∀ b, b ≠ a.toNat → t.byteAt b = s.byteAt b

/-- 20_memory.md R78: the MAT window shows dark in bit 0, func in bit 1 and 0 in bits 7:2, and has no module beyond 176. Of a
module nothing has written, whose read R61 and R78 call unspecified, the first clause is the MODEL's choice (log 3). -/
def Obligations.MatWindowShowsModules : Prop :=
  (∀ (s : State) (x y : Nat), s.busy = false → x ≤ 176 → y ≤ 176 →
    ∃ b, portAccess (.read8 (BitVec.ofNat 18 (0x10000 + 256 * y + x))) s = (.okByte b, s) ∧
      b.getLsbD 0 = (s.moduleAt x y).dark ∧ b.getLsbD 1 = (s.moduleAt x y).func ∧ b.extractLsb' 2 6 = 0) ∧
  (∀ (s : State) (a : BitVec 18), 0x10000 ≤ a.toNat → a.toNat ≤ 0x1FFFF →
    176 < a.toNat % 256 ∨ 176 < a.toNat / 256 % 256 → portAccess (.read8 a) s = (.err, s))

/-- 20_memory.md R71 and 10_state.md R30 to R46: what the host reads in every readable register, in every state, with BUSY 0 or 1:
each field of STATUS and of MCFG at its bits, every other field in the low bits, 0 in the reserved bits; no state changes. -/
def Obligations.RegistersShowTheirFields : Prop :=
  (∀ s : State, ∃ w : Word, portAccess (.read32 0x08) s = (.okWord w, s) ∧
    w.getLsbD 0 = s.busy ∧ w.getLsbD 1 = s.done ∧ (w.getLsbD 2 = true ↔ s.result ≠ 0) ∧ w.getLsbD 3 = s.haz ∧
    (w.extractLsb' 4 2 : BitVec 2) =
      (match s.mstate with | .empty => 0 | .framed => 1 | .placed => 2 | .masked => 3) ∧
    w.getLsbD 6 = s.ovalid ∧ w.getLsbD 7 = false ∧ w.extractLsb' 8 8 = s.penv ∧ w.extractLsb' 16 16 = 0) ∧
  (∀ s : State, ∃ w : Word, portAccess (.read32 0x34) s = (.okWord w, s) ∧
    w.extractLsb' 0 6 = s.mver ∧ w.extractLsb' 6 2 = 0 ∧ w.extractLsb' 8 2 = s.mlevel ∧ w.extractLsb' 10 6 = 0 ∧
    w.extractLsb' 16 8 = s.msize ∧ w.extractLsb' 24 8 = 0) ∧
  (∀ s : State, ∀ p ∈ [(0x00, 0x51525342), (0x04, s.colorEn.toNat), (0x0C, s.result.toNat), (0x14, s.errcmd.toNat),
      (0x18, s.version.toNat), (0x1C, s.level.toNat), (0x20, s.rsSrc.toNat), (0x24, s.rsDst.toNat), (0x28, s.colorR.toNat),
      (0x2C, s.colorG.toNat), (0x30, s.colorB.toNat), (0x38, s.maskSel.toNat), (0x3C, s.penSel.toNat),
      (0x60, s.cwlen.toNat), (0x64, s.olen.toNat)],
    portAccess (.read32 (BitVec.ofNat 18 p.1)) s = (.okWord (BitVec.ofNat 32 p.2), s)) ∧
  (∀ (s : State) (m : Nat), m < 8 → portAccess (.read32 (BitVec.ofNat 18 (0x40 + 4 * m))) s = (.okWord (s.penAt m), s))

/-- 20_memory.md R71 to R74, R76, R78, R80 and 10_state.md R34, R47: exactly which accesses get a bus error, with BUSY 0 or 1: a
32-bit read of anything but a readable register at its aligned offset, a 32-bit write of anything but an RW register or CMD, an
8-bit read where no byte exists, an 8-bit write outside DBUF and EBUF. -/
def Obligations.BusErrorsComeWhere : Prop :=
  (∀ (s : State) (a : BitVec 18), (portAccess (.read32 a) s).1 = .err ↔
    ¬(a.toNat ≤ 0x64 ∧ a.toNat % 4 = 0 ∧ a.toNat ≠ 0x10)) ∧
  (∀ (s : State) (a : BitVec 18) (v : Word), (portAccess (.write32 a v) s).1 = .err ↔
    a.toNat ∉ [0x04, 0x10, 0x18, 0x1C, 0x20, 0x24, 0x28, 0x2C, 0x30]) ∧
  (∀ (s : State) (a : BitVec 18), (portAccess (.read8 a) s).1 = .err ↔
    ¬((0x01000 ≤ a.toNat ∧ a.toNat ≤ 0x03FFF) ∨
      (0x10000 ≤ a.toNat ∧ a.toNat ≤ 0x1FFFF ∧ a.toNat % 256 ≤ 176 ∧ a.toNat / 256 % 256 ≤ 176) ∨ 0x20000 ≤ a.toNat)) ∧
  (∀ (s : State) (a : BitVec 18) (v : Byte), (portAccess (.write8 a v) s).1 = .err ↔
    ¬(0x01000 ≤ a.toNat ∧ a.toNat ≤ 0x02FFF))

/-- 10_state.md R47: offsets 0x68 to 0xFC hold no register. -/
def Obligations.UnusedOffsetsGetBusError : Prop :=
  ∀ (s : State) (a : BitVec 18) (v : Word), 0x68 ≤ a.toNat → a.toNat ≤ 0xFC →
    portAccess (.read32 a) s = (.err, s) ∧ portAccess (.write32 a v) s = (.err, s)

/-! ## Reset and what every step keeps -/

/-- 10_state.md R60: what the host reads in every register after reset. -/
def Obligations.ResetValuesOfRegisters : Prop :=
  State.reset.busy = false ∧
  ∀ p ∈ [(0x00, (0x51525342 : Word)), (0x04, 0), (0x08, 0), (0x0C, 0), (0x14, 0), (0x18, 0), (0x1C, 1), (0x20, 0), (0x24, 0),
      (0x28, 0), (0x2C, 0), (0x30, 0), (0x34, 0), (0x38, 0), (0x3C, 0), (0x40, 0), (0x44, 0), (0x48, 0), (0x4C, 0),
      (0x50, 0), (0x54, 0), (0x58, 0), (0x5C, 0), (0x60, 0), (0x64, 0)],
    portAccess (.read32 (BitVec.ofNat 18 p.1)) State.reset = (.okWord p.2, State.reset)

/-- The state after reset is legal, and the matrix invariants hold of it. -/
def Obligations.ResetIsLegal : Prop :=
  State.reset.legal ∧ State.reset.matrixLegal ∧ State.reset.codewordsHeld

/-- EVERY STEP KEEPS THE STATE LEGAL: BUSY and DONE never both 1, RESULT only a kind QRSB raises, MCFG and the scores those of the
phase, memory canonical and within the address map. -/
def Obligations.StepKeepsStateLegal : Prop :=
  ∀ s t : State, s.legal → step s = .next t → t.legal

/-- 42_matrix_builder.md R225 (a), (b), (c): every step keeps MAT's function modules those of the frame and its format modules those
of the phase. -/
def Obligations.StepKeepsMatrixLegal : Prop :=
  ∀ s t : State, s.legal → s.matrixLegal → step s = .next t → t.matrixLegal

/-- 42_matrix_builder.md R225 (d): every step keeps the data modules, un-masked and in PlaceOrder, equal to CWBUF followed by zero
bits. -/
def Obligations.StepKeepsCodewordsHeld : Prop :=
  ∀ s t : State, s.legal → s.matrixLegal → s.codewordsHeld → step s = .next t → t.codewordsHeld
end

