-- ==== Sys2Proof/Laws/Memory.lean ====
section
/-! SUPPORT. What the memory operations can do, said once: what each address holds after a write, and that every write keeps
the canonical form. -/

namespace Sys2Proof.Machine

/-! ## Looking one address up -/

@[simp] theorem get?_nil (a : Nat) : Memory.get? [] a = none := rfl

theorem get?_cons (c : Host.Cell) (m : Memory) (a : Nat) :
    Memory.get? (c :: m) a = if c.1 = a then some c.2 else Memory.get? m a := rfl

theorem get?_append (m n : Memory) (a : Nat) :
    Memory.get? (m ++ n) a = (Memory.get? m a).or (Memory.get? n a) := by
  induction m with
  | nil => simp
  | cons c m ih =>
    rw [List.cons_append, get?_cons, get?_cons, ih]
    split <;> simp

theorem get?_filter (p : Nat → Bool) (m : Memory) (a : Nat) :
    Memory.get? (m.filter fun c => p c.1) a = if p a then Memory.get? m a else none := by
  induction m with
  | nil => simp
  | cons c m ih =>
    by_cases hc : p c.1
    · rw [List.filter_cons_of_pos (by simpa using hc), get?_cons, get?_cons, ih]
      by_cases ha : c.1 = a
      · subst ha; simp [hc]
      · simp [ha]
    · rw [List.filter_cons_of_neg (by simpa using hc), get?_cons, ih]
      by_cases ha : c.1 = a
      · subst ha; simp [hc]
      · simp [ha]

/-- An address holds nothing exactly when no cell lists it. -/
theorem get?_eq_none (m : Memory) (a : Nat) : Memory.get? m a = none ↔ ∀ c ∈ m, c.1 ≠ a := by
  induction m with
  | nil => simp
  | cons c m ih =>
    rw [get?_cons]
    by_cases ha : c.1 = a
    · simp [ha]
    · simp [ha, ih]

/-- A run of cells holds exactly its bytes. -/
theorem get?_cellsFrom (base : Nat) (bs : List Byte) (a : Nat) :
    Memory.get? (cellsFrom base bs) a = if base ≤ a then bs[a - base]? else none := by
  induction bs generalizing base with
  | nil => simp [cellsFrom]
  | cons b bs ih =>
    rw [cellsFrom, get?_cons, ih]
    rcases Nat.lt_trichotomy base a with h | h | h
    · have h1 : a - base = (a - (base + 1)) + 1 := by omega
      simp [Nat.ne_of_lt h, Nat.succ_le_of_lt h, Nat.le_of_lt h, h1]
    · subst h; simp
    · have h1 : ¬ base ≤ a := by omega
      have h2 : ¬ base + 1 ≤ a := by omega
      simp [h1, h2, Nat.ne_of_gt h]

/-! ## Merging and overwriting -/

/-- An address that the new cells do not list keeps what the old ones hold. -/
theorem get?_merge_old (new old : Memory) (a : Nat) (h : Memory.get? new a = none) :
    Memory.get? (Memory.merge new old) a = Memory.get? old a := by
  induction new generalizing old with
  | nil => rfl
  | cons c new ih =>
    rw [get?_cons] at h
    by_cases hc : c.1 = a
    · simp [hc] at h
    · have h' : Memory.get? new a = none := by simpa [hc] using h
      rw [Memory.merge, get?_append, get?_cons, if_neg hc, ih _ h', ← get?_append, List.takeWhile_append_dropWhile]

/-- An address that no old cell lists holds what the new cells say. -/
theorem get?_merge_new (new old : Memory) (a : Nat) (h : Memory.get? old a = none) :
    Memory.get? (Memory.merge new old) a = Memory.get? new a := by
  induction new generalizing old with
  | nil => simpa [Memory.merge] using h
  | cons c new ih =>
    rw [get?_eq_none] at h
    have ht : Memory.get? (old.takeWhile fun d => decide (d.1 < c.1)) a = none := by
      rw [get?_eq_none]; exact fun d hd => h d (List.takeWhile_subset _ hd)
    have hd : Memory.get? (old.dropWhile fun d => decide (d.1 < c.1)) a = none := by
      rw [get?_eq_none]; exact fun d hd => h d ((List.dropWhile_suffix _).subset hd)
    rw [Memory.merge, get?_append, ht, get?_cons, get?_cons, ih _ hd]
    simp

/-- What `overwrite` does: the addresses inside hold the new cells, every other address keeps what it held. -/
theorem get?_overwrite (inside : Nat → Bool) (new m : Memory) (a : Nat)
    (h : inside a = false → Memory.get? new a = none) :
    Memory.get? (Memory.overwrite inside new m) a =
      if inside a then Memory.get? new a else Memory.get? m a := by
  rw [Memory.overwrite]
  by_cases ha : inside a
  · rw [if_pos ha]
    exact get?_merge_new _ _ _ (by rw [get?_filter (fun k => !inside k)]; simp [ha])
  · rw [if_neg ha, get?_merge_old _ _ _ (h (by simpa using ha)), get?_filter (fun k => !inside k)]
    simp [ha]

/-- What `writeBytes` does. -/
theorem get?_writeBytes (m : Memory) (base : Nat) (bs : List Byte) (a : Nat) :
    Memory.get? (m.writeBytes base bs) a =
      if base ≤ a ∧ a < base + bs.length then bs[a - base]? else Memory.get? m a := by
  rw [Memory.writeBytes, get?_overwrite]
  · by_cases h1 : base ≤ a <;> by_cases h2 : a < base + bs.length <;> simp [inRange, h1, h2, get?_cellsFrom]
  · intro h
    rw [get?_cellsFrom]
    simp only [inRange, Bool.and_eq_false_iff, decide_eq_false_iff_not] at h
    split
    · rw [List.getElem?_eq_none_iff]; omega
    · rfl

/-! ## The canonical form -/

theorem cellsFrom_bounds (base : Nat) (bs : List Byte) (c : Host.Cell) (hc : c ∈ cellsFrom base bs) :
    base ≤ c.1 ∧ c.1 < base + bs.length := by
  induction bs generalizing base with
  | nil => simp [cellsFrom] at hc
  | cons b bs ih =>
    rw [cellsFrom, List.mem_cons] at hc
    rcases hc with rfl | hc
    · simp
    · have := ih _ hc
      simp only [List.length_cons]; omega

/-- A cell of `cellsFrom` holds one of its bytes. -/
theorem cellsFrom_snd_mem (base : Nat) (bs : List Byte) (c : Host.Cell) (hc : c ∈ cellsFrom base bs) : c.2 ∈ bs := by
  induction bs generalizing base with
  | nil => simp [cellsFrom] at hc
  | cons b bs ih =>
    rw [cellsFrom, List.mem_cons] at hc
    rcases hc with rfl | hc
    · simp
    · exact List.mem_cons_of_mem _ (ih _ hc)

theorem cellsFrom_wf (base : Nat) (bs : List Byte) : Memory.wf (cellsFrom base bs) := by
  induction bs generalizing base with
  | nil => simp [cellsFrom, Memory.wf]
  | cons b bs ih =>
    refine List.pairwise_cons.mpr ⟨fun c hc => ?_, ih _⟩
    have := cellsFrom_bounds _ _ _ hc
    show base < c.1
    omega

theorem mem_merge (new old : Memory) (c : Host.Cell) : c ∈ Memory.merge new old ↔ c ∈ new ∨ c ∈ old := by
  induction new generalizing old with
  | nil => simp [Memory.merge]
  | cons d new ih =>
    rw [Memory.merge, List.mem_append, List.mem_cons, ih, List.mem_cons]
    conv_rhs => rw [← List.takeWhile_append_dropWhile (p := fun e => decide (e.1 < d.1)) (l := old), List.mem_append]
    tauto

theorem dropWhile_ge (k : Nat) (m : Memory) (h : Memory.wf m) :
    ∀ c ∈ m.dropWhile (fun d => decide (d.1 < k)), k ≤ c.1 := by
  induction m with
  | nil => simp
  | cons d m ih =>
    rw [Memory.wf, List.pairwise_cons] at h
    by_cases hd : d.1 < k
    · rw [List.dropWhile_cons_of_pos (by simpa using hd)]; exact ih h.2
    · rw [List.dropWhile_cons_of_neg (by simpa using hd)]
      intro c hc
      rw [List.mem_cons] at hc
      rcases hc with rfl | hc
      · omega
      · have := h.1 c hc; omega

theorem takeWhile_lt (k : Nat) (m : Memory) : ∀ c ∈ m.takeWhile (fun d => decide (d.1 < k)), c.1 < k := by
  intro c hc
  simpa using List.mem_takeWhile_imp hc

/-- Merging keeps the canonical form when no address is listed on both sides. -/
theorem merge_wf (new old : Memory) (hn : Memory.wf new) (ho : Memory.wf old)
    (hd : ∀ c ∈ new, ∀ d ∈ old, c.1 ≠ d.1) : Memory.wf (Memory.merge new old) := by
  induction new generalizing old with
  | nil => exact ho
  | cons c new ih =>
    rw [Memory.wf, List.pairwise_cons] at hn
    have hsub : ∀ d ∈ old.dropWhile (fun d => decide (d.1 < c.1)), d ∈ old :=
      fun d h => (List.dropWhile_suffix _).subset h
    have hrest : Memory.wf (Memory.merge new (old.dropWhile fun d => decide (d.1 < c.1))) :=
      ih _ hn.2 (ho.sublist (List.dropWhile_suffix _).sublist)
        fun d h e he => hd d (List.mem_cons_of_mem _ h) e (hsub e he)
    have hlow : ∀ e ∈ Memory.merge new (old.dropWhile fun d => decide (d.1 < c.1)), c.1 < e.1 := by
      intro e he
      rw [mem_merge] at he
      rcases he with he | he
      · exact hn.1 e he
      · have h1 := dropWhile_ge c.1 old ho e he
        have h2 := hd c (List.mem_cons_self ..) e (hsub e he)
        omega
    rw [Memory.merge, Memory.wf, List.pairwise_append]
    refine ⟨ho.sublist (List.takeWhile_prefix _).sublist, List.pairwise_cons.mpr ⟨hlow, hrest⟩, ?_⟩
    intro d hd' e he
    have hdc := takeWhile_lt c.1 old d hd'
    rw [List.mem_cons] at he
    rcases he with rfl | he
    · exact hdc
    · have := hlow e he; omega

/-- Overwriting keeps the canonical form when the new cells are in it and lie inside. -/
theorem overwrite_wf (inside : Nat → Bool) (new m : Memory) (hn : Memory.wf new) (hm : Memory.wf m)
    (hin : ∀ c ∈ new, inside c.1 = true) : Memory.wf (Memory.overwrite inside new m) := by
  refine merge_wf _ _ hn (hm.sublist List.filter_sublist) fun c hc d hd h => ?_
  have h1 := hin c hc
  have h2 := (List.mem_filter.mp hd).2
  rw [← h, h1] at h2
  exact absurd h2 (by decide)

theorem writeBytes_wf (m : Memory) (base : Nat) (bs : List Byte) (hm : Memory.wf m) :
    Memory.wf (m.writeBytes base bs) :=
  overwrite_wf _ _ _ (cellsFrom_wf _ _) hm fun c hc => by
    have := cellsFrom_bounds _ _ _ hc
    simp [inRange, this]

/-! ## One byte of the state -/

/-- What `storeBytes` does to one byte. -/
theorem byteAt_storeBytes (base : Nat) (bs : List Byte) (s : State) (a : Nat) :
    (storeBytes base bs s).byteAt a =
      if base ≤ a ∧ a < base + bs.length then bs.getD (a - base) 0 else s.byteAt a := by
  rw [State.byteAt, storeBytes]
  simp only [get?_writeBytes]
  by_cases h : base ≤ a ∧ a < base + bs.length
  · have hlt : a - base < bs.length := by omega
    rw [if_pos h, if_pos h, List.getElem?_eq_getElem hlt, List.getD_eq_getElem?_getD, List.getElem?_eq_getElem hlt]
    rfl
  · rw [if_neg h, if_neg h, State.byteAt]

theorem storeBytes_keeps_wf (base : Nat) (bs : List Byte) (s : State) (h : Memory.wf s.mem) :
    Memory.wf (storeBytes base bs s).mem := writeBytes_wf _ _ _ h

/-- The memory after hard reset is in the canonical form. -/
theorem reset_mem_wf : Memory.wf State.reset.mem := List.Pairwise.nil

end Sys2Proof.Machine
end

