-- ==== Sys2Proof/Laws/Matrix.lean ====
section
/-! SUPPORT. What the matrix operations can do, said once: reading a tabulated or changed array, and storing one in MAT. -/

namespace Sys2Proof.Machine

/-! ## Modules as bytes -/

@[simp] theorem ofByte_toByte (q : QrModule) : QrModule.ofByte q.toByte = q := by
  obtain ⟨d, f⟩ := q
  cases d <;> cases f <;> rfl

theorem toByte_lt (q : QrModule) : q.toByte.toNat < 4 := by
  obtain ⟨d, f⟩ := q
  cases d <;> cases f <;> decide

/-! ## Arrays -/

@[simp] theorem matTabulate_length (side : Nat) (f : Nat → Nat → QrModule) : (matTabulate side f).length = side := by
  simp [matTabulate]

/-- Reading a tabulated array. -/
theorem matGet_matTabulate (side : Nat) (f : Nat → Nat → QrModule) (x y : Nat) :
    matGet (matTabulate side f) x y = if x < side ∧ y < side then f x y else QrModule.blank := by
  unfold matGet matTabulate
  by_cases hy : y < side <;> by_cases hx : x < side <;>
    simp [List.getD_eq_getElem?_getD, hx, hy]

/-- Module (x, y) is in the array. -/
def matHas (m : Matrix) (x y : Nat) : Prop := x < (m.getD y []).length

theorem matHas_matTabulate (side : Nat) (f : Nat → Nat → QrModule) (x y : Nat) :
    matHas (matTabulate side f) x y ↔ x < side ∧ y < side := by
  unfold matHas matTabulate
  by_cases hy : y < side <;> simp [List.getD_eq_getElem?_getD, hy]

theorem row_matSetDark (m : Matrix) (x y : Nat) (b : Bool) (v : Nat) :
    (matSetDark m x y b).getD v [] =
      if y = v then (m.getD v []).modify x fun q => { q with dark := b } else m.getD v [] := by
  unfold matSetDark
  rw [List.getD_eq_getElem?_getD, List.getElem?_modify, List.getD_eq_getElem?_getD]
  cases m[v]? <;> split <;> simp

/-- Setting a module's `dark` bit changes which modules the array has not at all. -/
@[simp] theorem matHas_matSetDark (m : Matrix) (x y : Nat) (b : Bool) (u v : Nat) :
    matHas (matSetDark m x y b) u v ↔ matHas m u v := by
  unfold matHas
  rw [row_matSetDark]
  split <;> simp

/-- Reading after `dark` of one module was set. -/
theorem matGet_matSetDark (m : Matrix) (x y : Nat) (b : Bool) (u v : Nat) (h : matHas m u v) :
    matGet (matSetDark m x y b) u v = if x = u ∧ y = v then { matGet m u v with dark := b } else matGet m u v := by
  unfold matGet
  rw [row_matSetDark]
  unfold matHas at h
  generalize m.getD v [] = row at h
  by_cases hy : y = v
  · by_cases hx : x = u <;>
      simp [List.getD_eq_getElem?_getD, List.getElem?_eq_getElem h, hx, hy]
  · simp [hy]

/-- A run of `dark` writes changes which modules the array has not at all. -/
theorem matHas_foldl_setDark {α : Type} (l : List α) (px py : α → Nat) (bit : α → Bool) (m : Matrix) (u v : Nat) :
    matHas (l.foldl (fun acc e => matSetDark acc (px e) (py e) (bit e)) m) u v ↔ matHas m u v := by
  induction l generalizing m with
  | nil => rfl
  | cons e l ih => rw [List.foldl_cons, ih, matHas_matSetDark]

/-- A run of `dark` writes leaves a module that none of them names as it was. -/
theorem matGet_foldl_setDark_other {α : Type} (l : List α) (px py : α → Nat) (bit : α → Bool) (m : Matrix)
    (u v : Nat) (h : matHas m u v) (hne : ∀ e ∈ l, ¬(px e = u ∧ py e = v)) :
    matGet (l.foldl (fun acc e => matSetDark acc (px e) (py e) (bit e)) m) u v = matGet m u v := by
  induction l generalizing m with
  | nil => rfl
  | cons e l ih =>
    rw [List.foldl_cons, ih _ ((matHas_matSetDark ..).mpr h) fun d hd => hne d (List.mem_cons_of_mem _ hd),
      matGet_matSetDark _ _ _ _ _ _ h, if_neg (hne e (List.mem_cons_self ..))]

/-- A run of `dark` writes never changes a `func` bit. -/
theorem matGet_foldl_setDark_func {α : Type} (l : List α) (px py : α → Nat) (bit : α → Bool) (m : Matrix)
    (u v : Nat) (h : matHas m u v) :
    (matGet (l.foldl (fun acc e => matSetDark acc (px e) (py e) (bit e)) m) u v).func = (matGet m u v).func := by
  induction l generalizing m with
  | nil => rfl
  | cons e l ih =>
    rw [List.foldl_cons, ih _ ((matHas_matSetDark ..).mpr h), matGet_matSetDark _ _ _ _ _ _ h]
    split <;> rfl

/-! ## Storing an array in MAT -/

theorem get?_flatMap_cells (base : Nat → Nat) (row : Nat → List Byte) (l : List Nat) (a : Nat) :
    Memory.get? (l.flatMap fun y => cellsFrom (base y) (row y)) a =
      l.findSome? fun y => Memory.get? (cellsFrom (base y) (row y)) a := by
  induction l with
  | nil => rfl
  | cons y l ih =>
    rw [List.flatMap_cons, get?_append, ih, List.findSome?_cons]
    cases Memory.get? (cellsFrom (base y) (row y)) a <;> rfl

theorem matAddr_inj (x y u v : Nat) (hx : x < 256) (hu : u < 256) (h : matAddr x y = matAddr u v) : x = u ∧ y = v := by
  unfold matAddr at h
  omega

theorem inSymbol_matAddr (side x y : Nat) (hx : x < 256) :
    inSymbol side (matAddr x y) = true ↔ x < side ∧ y < side := by
  unfold inSymbol matAddr
  have h1 : (Config.matBase + 256 * y + x - Config.matBase) % 256 = x := by omega
  have h2 : (Config.matBase + 256 * y + x - Config.matBase) / 256 = y := by omega
  rw [h1, h2]
  simp only [Bool.and_eq_true, decide_eq_true_eq]
  omega

/-- An address inside the symbol is that of one of its modules. -/
theorem inSymbol_iff (side a : Nat) (hs : side ≤ 256) :
    inSymbol side a = true ↔ ∃ x y, x < side ∧ y < side ∧ a = matAddr x y := by
  constructor
  · intro h
    simp only [inSymbol, Bool.and_eq_true, decide_eq_true_eq] at h
    refine ⟨(a - Config.matBase) % 256, (a - Config.matBase) / 256, h.1.2, h.2, ?_⟩
    unfold matAddr
    have := h.1.1
    omega
  · rintro ⟨x, y, hx, hy, rfl⟩
    exact (inSymbol_matAddr side x y (by omega)).mpr ⟨hx, hy⟩

@[simp] theorem rowBytes_length (m : Matrix) (side y : Nat) : (rowBytes m side y).length = side := by
  simp [rowBytes]

theorem get?_row (m : Matrix) (side x y v : Nat) (hs : side ≤ 256) (hx : x < 256) :
    Memory.get? (cellsFrom (matAddr 0 v) (rowBytes m side v)) (matAddr x y) =
      if v = y ∧ x < side then some (matGet m x y).toByte else none := by
  rw [get?_cellsFrom]
  by_cases hvy : v = y
  · subst hvy
    have h1 : matAddr 0 v ≤ matAddr x v := by unfold matAddr; omega
    have h2 : matAddr x v - matAddr 0 v = x := by unfold matAddr; omega
    rw [if_pos h1, h2]
    by_cases hxs : x < side <;> simp [rowBytes, hxs]
  · rw [if_neg fun h : v = y ∧ x < side => hvy h.1]
    split
    · rename_i h
      rw [List.getElem?_eq_none_iff, rowBytes_length]
      unfold matAddr at h ⊢
      omega
    · rfl

/-- What the cells of an array hold at a module's address. -/
theorem get?_matrixCells (m : Matrix) (side x y : Nat) (hs : side ≤ 256) (hx : x < 256) :
    Memory.get? (matrixCells m side) (matAddr x y) =
      if x < side ∧ y < side then some (matGet m x y).toByte else none := by
  rw [matrixCells, get?_flatMap_cells]
  by_cases h : x < side ∧ y < side
  · rw [if_pos h]
    have hin : y ∈ List.range side := List.mem_range.mpr h.2
    generalize List.range side = l at hin
    induction l with
    | nil => simp at hin
    | cons v l ih =>
      rw [List.findSome?_cons, get?_row m side x y v hs hx]
      by_cases hv : v = y
      · simp [hv, h.1]
      · rw [if_neg (by tauto)]
        exact ih (by simpa [Ne.symm hv] using hin)
  · rw [if_neg h, List.findSome?_eq_none_iff]
    intro v hv
    rw [get?_row m side x y v hs hx, if_neg]
    rintro ⟨rfl, hxs⟩
    exact h ⟨hxs, List.mem_range.mp hv⟩

/-- The cells of an array lie inside the symbol. -/
theorem matrixCells_inside (m : Matrix) (side : Nat) (hs : side ≤ 256) :
    ∀ c ∈ matrixCells m side, inSymbol side c.1 = true := by
  intro c hc
  rw [matrixCells, List.mem_flatMap] at hc
  obtain ⟨y, hy, hc⟩ := hc
  have hb := cellsFrom_bounds _ _ _ hc
  rw [rowBytes_length] at hb
  refine (inSymbol_iff side c.1 hs).mpr ⟨c.1 - matAddr 0 y, y, by omega, List.mem_range.mp hy, ?_⟩
  unfold matAddr at hb ⊢
  omega

theorem get?_matrixCells_outside (m : Matrix) (side a : Nat) (hs : side ≤ 256) (h : inSymbol side a = false) :
    Memory.get? (matrixCells m side) a = none := by
  rw [get?_eq_none]
  rintro c hc rfl
  rw [matrixCells_inside m side hs c hc] at h
  exact absurd h (by decide)

theorem matrixCells_wf (m : Matrix) (side : Nat) (hs : side ≤ 256) : Memory.wf (matrixCells m side) := by
  rw [matrixCells, Memory.wf]
  have hrows : ∀ n, Memory.wf ((List.range n).flatMap fun y => cellsFrom (matAddr 0 y) (rowBytes m side y)) := by
    intro n
    induction n with
    | zero => exact List.Pairwise.nil
    | succ n ih =>
      rw [List.range_succ, List.flatMap_append, List.flatMap_singleton, Memory.wf, List.pairwise_append]
      refine ⟨ih, cellsFrom_wf _ _, fun c hc d hd => ?_⟩
      rw [List.mem_flatMap] at hc
      obtain ⟨y, hy, hc⟩ := hc
      have h1 := cellsFrom_bounds _ _ _ hc
      have h2 := cellsFrom_bounds _ _ _ hd
      rw [rowBytes_length] at h1 h2
      have := List.mem_range.mp hy
      unfold matAddr at h1 h2
      omega
  exact hrows side

theorem matDim_le : min (n : Nat) Config.matDim ≤ 177 := by unfold Config.matDim; omega

/-- What `storeMatrix` does to one byte of memory outside the symbol: nothing. -/
theorem byteAt_storeMatrix_outside (m : Matrix) (side : Nat) (s : State) (a : Nat)
    (h : inSymbol (min side Config.matDim) a = false) : (storeMatrix m side s).byteAt a = s.byteAt a := by
  have hs : min side Config.matDim ≤ 256 := le_trans matDim_le (by decide)
  unfold storeMatrix State.byteAt
  simp only
  rw [get?_overwrite _ _ _ _ fun h' => get?_matrixCells_outside m _ a hs h', if_neg (by simp [h])]

/-- What `storeMatrix` does to one module. -/
theorem moduleAt_storeMatrix (m : Matrix) (side : Nat) (s : State) (x y : Nat) (hx : x < 256) :
    (storeMatrix m side s).moduleAt x y =
      if x < min side Config.matDim ∧ y < min side Config.matDim then matGet m x y else s.moduleAt x y := by
  have hs : min side Config.matDim ≤ 256 := le_trans matDim_le (by decide)
  by_cases h : x < min side Config.matDim ∧ y < min side Config.matDim
  · rw [if_pos h]
    have hin := (inSymbol_matAddr (min side Config.matDim) x y hx).mpr h
    unfold State.moduleAt State.byteAt storeMatrix
    simp only
    rw [get?_overwrite _ _ _ _ fun h' => get?_matrixCells_outside m _ _ hs h', if_pos hin,
      get?_matrixCells m _ x y hs hx, if_pos h]
    simp
  · rw [if_neg h]
    unfold State.moduleAt
    rw [byteAt_storeMatrix_outside]
    rw [Bool.eq_false_iff]
    exact fun h' => h ((inSymbol_matAddr _ x y hx).mp h')

theorem storeMatrix_keeps_wf (m : Matrix) (side : Nat) (s : State) (h : Memory.wf s.mem) :
    Memory.wf (storeMatrix m side s).mem := by
  have hs : min side Config.matDim ≤ 256 := le_trans matDim_le (by decide)
  exact overwrite_wf _ _ _ (matrixCells_wf _ _ hs) h (matrixCells_inside m _ hs)

/-- The matrix read back from MAT. -/
theorem matGet_readMatrix (s : State) (side x y : Nat) :
    matGet (s.readMatrix side) x y = if x < side ∧ y < side then s.moduleAt x y else QrModule.blank :=
  matGet_matTabulate _ _ _ _

end Sys2Proof.Machine
end

