-- ==== Sys2Proof/Laws/State.lean ====
section
/-! SUPPORT. One lemma per field per update of the state, true by rfl (for the commands' writes: by the lemmas of the
updates they are made of), so that no later proof unfolds a record update. -/

namespace Sys2Proof.Machine

/-! ## storeBytes -/

@[simp] theorem storeBytes_colorEn (base : Nat) (bs : List Byte) (s : State) : (storeBytes base bs s).colorEn = s.colorEn := rfl
@[simp] theorem storeBytes_busy (base : Nat) (bs : List Byte) (s : State) : (storeBytes base bs s).busy = s.busy := rfl
@[simp] theorem storeBytes_done (base : Nat) (bs : List Byte) (s : State) : (storeBytes base bs s).done = s.done := rfl
@[simp] theorem storeBytes_haz (base : Nat) (bs : List Byte) (s : State) : (storeBytes base bs s).haz = s.haz := rfl
@[simp] theorem storeBytes_mstate (base : Nat) (bs : List Byte) (s : State) : (storeBytes base bs s).mstate = s.mstate := rfl
@[simp] theorem storeBytes_ovalid (base : Nat) (bs : List Byte) (s : State) : (storeBytes base bs s).ovalid = s.ovalid := rfl
@[simp] theorem storeBytes_penv (base : Nat) (bs : List Byte) (s : State) : (storeBytes base bs s).penv = s.penv := rfl
@[simp] theorem storeBytes_result (base : Nat) (bs : List Byte) (s : State) : (storeBytes base bs s).result = s.result := rfl
@[simp] theorem storeBytes_errcmd (base : Nat) (bs : List Byte) (s : State) : (storeBytes base bs s).errcmd = s.errcmd := rfl
@[simp] theorem storeBytes_version (base : Nat) (bs : List Byte) (s : State) : (storeBytes base bs s).version = s.version := rfl
@[simp] theorem storeBytes_level (base : Nat) (bs : List Byte) (s : State) : (storeBytes base bs s).level = s.level := rfl
@[simp] theorem storeBytes_rsSrc (base : Nat) (bs : List Byte) (s : State) : (storeBytes base bs s).rsSrc = s.rsSrc := rfl
@[simp] theorem storeBytes_rsDst (base : Nat) (bs : List Byte) (s : State) : (storeBytes base bs s).rsDst = s.rsDst := rfl
@[simp] theorem storeBytes_colorR (base : Nat) (bs : List Byte) (s : State) : (storeBytes base bs s).colorR = s.colorR := rfl
@[simp] theorem storeBytes_colorG (base : Nat) (bs : List Byte) (s : State) : (storeBytes base bs s).colorG = s.colorG := rfl
@[simp] theorem storeBytes_colorB (base : Nat) (bs : List Byte) (s : State) : (storeBytes base bs s).colorB = s.colorB := rfl
@[simp] theorem storeBytes_mver (base : Nat) (bs : List Byte) (s : State) : (storeBytes base bs s).mver = s.mver := rfl
@[simp] theorem storeBytes_mlevel (base : Nat) (bs : List Byte) (s : State) : (storeBytes base bs s).mlevel = s.mlevel := rfl
@[simp] theorem storeBytes_msize (base : Nat) (bs : List Byte) (s : State) : (storeBytes base bs s).msize = s.msize := rfl
@[simp] theorem storeBytes_maskSel (base : Nat) (bs : List Byte) (s : State) : (storeBytes base bs s).maskSel = s.maskSel := rfl
@[simp] theorem storeBytes_penSel (base : Nat) (bs : List Byte) (s : State) : (storeBytes base bs s).penSel = s.penSel := rfl
@[simp] theorem storeBytes_pen (base : Nat) (bs : List Byte) (s : State) : (storeBytes base bs s).pen = s.pen := rfl
@[simp] theorem storeBytes_cwlen (base : Nat) (bs : List Byte) (s : State) : (storeBytes base bs s).cwlen = s.cwlen := rfl
@[simp] theorem storeBytes_olen (base : Nat) (bs : List Byte) (s : State) : (storeBytes base bs s).olen = s.olen := rfl
@[simp] theorem storeBytes_pending (base : Nat) (bs : List Byte) (s : State) : (storeBytes base bs s).pending = s.pending := rfl
@[simp] theorem storeBytes_mem (base : Nat) (bs : List Byte) (s : State) : (storeBytes base bs s).mem = s.mem.writeBytes base bs := rfl
@[simp] theorem storeBytes_epoch (base : Nat) (bs : List Byte) (s : State) : (storeBytes base bs s).epoch = s.epoch := rfl
@[simp] theorem storeBytes_draws (base : Nat) (bs : List Byte) (s : State) : (storeBytes base bs s).draws = s.draws := rfl
@[simp] theorem storeBytes_inputs (base : Nat) (bs : List Byte) (s : State) : (storeBytes base bs s).inputs = s.inputs := rfl
@[simp] theorem storeBytes_responses (base : Nat) (bs : List Byte) (s : State) : (storeBytes base bs s).responses = s.responses := rfl

/-! ## storeMatrix -/

@[simp] theorem storeMatrix_colorEn (m : Matrix) (side : Nat) (s : State) : (storeMatrix m side s).colorEn = s.colorEn := rfl
@[simp] theorem storeMatrix_busy (m : Matrix) (side : Nat) (s : State) : (storeMatrix m side s).busy = s.busy := rfl
@[simp] theorem storeMatrix_done (m : Matrix) (side : Nat) (s : State) : (storeMatrix m side s).done = s.done := rfl
@[simp] theorem storeMatrix_haz (m : Matrix) (side : Nat) (s : State) : (storeMatrix m side s).haz = s.haz := rfl
@[simp] theorem storeMatrix_mstate (m : Matrix) (side : Nat) (s : State) : (storeMatrix m side s).mstate = s.mstate := rfl
@[simp] theorem storeMatrix_ovalid (m : Matrix) (side : Nat) (s : State) : (storeMatrix m side s).ovalid = s.ovalid := rfl
@[simp] theorem storeMatrix_penv (m : Matrix) (side : Nat) (s : State) : (storeMatrix m side s).penv = s.penv := rfl
@[simp] theorem storeMatrix_result (m : Matrix) (side : Nat) (s : State) : (storeMatrix m side s).result = s.result := rfl
@[simp] theorem storeMatrix_errcmd (m : Matrix) (side : Nat) (s : State) : (storeMatrix m side s).errcmd = s.errcmd := rfl
@[simp] theorem storeMatrix_version (m : Matrix) (side : Nat) (s : State) : (storeMatrix m side s).version = s.version := rfl
@[simp] theorem storeMatrix_level (m : Matrix) (side : Nat) (s : State) : (storeMatrix m side s).level = s.level := rfl
@[simp] theorem storeMatrix_rsSrc (m : Matrix) (side : Nat) (s : State) : (storeMatrix m side s).rsSrc = s.rsSrc := rfl
@[simp] theorem storeMatrix_rsDst (m : Matrix) (side : Nat) (s : State) : (storeMatrix m side s).rsDst = s.rsDst := rfl
@[simp] theorem storeMatrix_colorR (m : Matrix) (side : Nat) (s : State) : (storeMatrix m side s).colorR = s.colorR := rfl
@[simp] theorem storeMatrix_colorG (m : Matrix) (side : Nat) (s : State) : (storeMatrix m side s).colorG = s.colorG := rfl
@[simp] theorem storeMatrix_colorB (m : Matrix) (side : Nat) (s : State) : (storeMatrix m side s).colorB = s.colorB := rfl
@[simp] theorem storeMatrix_mver (m : Matrix) (side : Nat) (s : State) : (storeMatrix m side s).mver = s.mver := rfl
@[simp] theorem storeMatrix_mlevel (m : Matrix) (side : Nat) (s : State) : (storeMatrix m side s).mlevel = s.mlevel := rfl
@[simp] theorem storeMatrix_msize (m : Matrix) (side : Nat) (s : State) : (storeMatrix m side s).msize = s.msize := rfl
@[simp] theorem storeMatrix_maskSel (m : Matrix) (side : Nat) (s : State) : (storeMatrix m side s).maskSel = s.maskSel := rfl
@[simp] theorem storeMatrix_penSel (m : Matrix) (side : Nat) (s : State) : (storeMatrix m side s).penSel = s.penSel := rfl
@[simp] theorem storeMatrix_pen (m : Matrix) (side : Nat) (s : State) : (storeMatrix m side s).pen = s.pen := rfl
@[simp] theorem storeMatrix_cwlen (m : Matrix) (side : Nat) (s : State) : (storeMatrix m side s).cwlen = s.cwlen := rfl
@[simp] theorem storeMatrix_olen (m : Matrix) (side : Nat) (s : State) : (storeMatrix m side s).olen = s.olen := rfl
@[simp] theorem storeMatrix_pending (m : Matrix) (side : Nat) (s : State) : (storeMatrix m side s).pending = s.pending := rfl
@[simp] theorem storeMatrix_epoch (m : Matrix) (side : Nat) (s : State) : (storeMatrix m side s).epoch = s.epoch := rfl
@[simp] theorem storeMatrix_draws (m : Matrix) (side : Nat) (s : State) : (storeMatrix m side s).draws = s.draws := rfl
@[simp] theorem storeMatrix_inputs (m : Matrix) (side : Nat) (s : State) : (storeMatrix m side s).inputs = s.inputs := rfl
@[simp] theorem storeMatrix_responses (m : Matrix) (side : Nat) (s : State) : (storeMatrix m side s).responses = s.responses := rfl

/-! ## fail -/

@[simp] theorem fail_colorEn (k : ResultKind) (s : State) : (fail k s).colorEn = s.colorEn := rfl
@[simp] theorem fail_busy (k : ResultKind) (s : State) : (fail k s).busy = s.busy := rfl
@[simp] theorem fail_done (k : ResultKind) (s : State) : (fail k s).done = s.done := rfl
@[simp] theorem fail_haz (k : ResultKind) (s : State) : (fail k s).haz = s.haz := rfl
@[simp] theorem fail_mstate (k : ResultKind) (s : State) : (fail k s).mstate = s.mstate := rfl
@[simp] theorem fail_ovalid (k : ResultKind) (s : State) : (fail k s).ovalid = s.ovalid := rfl
@[simp] theorem fail_penv (k : ResultKind) (s : State) : (fail k s).penv = s.penv := rfl
@[simp] theorem fail_result (k : ResultKind) (s : State) : (fail k s).result = k.image := rfl
@[simp] theorem fail_errcmd (k : ResultKind) (s : State) : (fail k s).errcmd = s.pending := rfl
@[simp] theorem fail_version (k : ResultKind) (s : State) : (fail k s).version = s.version := rfl
@[simp] theorem fail_level (k : ResultKind) (s : State) : (fail k s).level = s.level := rfl
@[simp] theorem fail_rsSrc (k : ResultKind) (s : State) : (fail k s).rsSrc = s.rsSrc := rfl
@[simp] theorem fail_rsDst (k : ResultKind) (s : State) : (fail k s).rsDst = s.rsDst := rfl
@[simp] theorem fail_colorR (k : ResultKind) (s : State) : (fail k s).colorR = s.colorR := rfl
@[simp] theorem fail_colorG (k : ResultKind) (s : State) : (fail k s).colorG = s.colorG := rfl
@[simp] theorem fail_colorB (k : ResultKind) (s : State) : (fail k s).colorB = s.colorB := rfl
@[simp] theorem fail_mver (k : ResultKind) (s : State) : (fail k s).mver = s.mver := rfl
@[simp] theorem fail_mlevel (k : ResultKind) (s : State) : (fail k s).mlevel = s.mlevel := rfl
@[simp] theorem fail_msize (k : ResultKind) (s : State) : (fail k s).msize = s.msize := rfl
@[simp] theorem fail_maskSel (k : ResultKind) (s : State) : (fail k s).maskSel = s.maskSel := rfl
@[simp] theorem fail_penSel (k : ResultKind) (s : State) : (fail k s).penSel = s.penSel := rfl
@[simp] theorem fail_pen (k : ResultKind) (s : State) : (fail k s).pen = s.pen := rfl
@[simp] theorem fail_cwlen (k : ResultKind) (s : State) : (fail k s).cwlen = s.cwlen := rfl
@[simp] theorem fail_olen (k : ResultKind) (s : State) : (fail k s).olen = s.olen := rfl
@[simp] theorem fail_pending (k : ResultKind) (s : State) : (fail k s).pending = s.pending := rfl
@[simp] theorem fail_mem (k : ResultKind) (s : State) : (fail k s).mem = s.mem := rfl
@[simp] theorem fail_epoch (k : ResultKind) (s : State) : (fail k s).epoch = s.epoch := rfl
@[simp] theorem fail_draws (k : ResultKind) (s : State) : (fail k s).draws = s.draws := rfl
@[simp] theorem fail_inputs (k : ResultKind) (s : State) : (fail k s).inputs = s.inputs := rfl
@[simp] theorem fail_responses (k : ResultKind) (s : State) : (fail k s).responses = s.responses := rfl

/-! ## clearFailure -/

@[simp] theorem clearFailure_colorEn (s : State) : (clearFailure s).colorEn = s.colorEn := rfl
@[simp] theorem clearFailure_busy (s : State) : (clearFailure s).busy = s.busy := rfl
@[simp] theorem clearFailure_done (s : State) : (clearFailure s).done = s.done := rfl
@[simp] theorem clearFailure_haz (s : State) : (clearFailure s).haz = false := rfl
@[simp] theorem clearFailure_mstate (s : State) : (clearFailure s).mstate = s.mstate := rfl
@[simp] theorem clearFailure_ovalid (s : State) : (clearFailure s).ovalid = s.ovalid := rfl
@[simp] theorem clearFailure_penv (s : State) : (clearFailure s).penv = s.penv := rfl
@[simp] theorem clearFailure_result (s : State) : (clearFailure s).result = 0 := rfl
@[simp] theorem clearFailure_errcmd (s : State) : (clearFailure s).errcmd = 0 := rfl
@[simp] theorem clearFailure_version (s : State) : (clearFailure s).version = s.version := rfl
@[simp] theorem clearFailure_level (s : State) : (clearFailure s).level = s.level := rfl
@[simp] theorem clearFailure_rsSrc (s : State) : (clearFailure s).rsSrc = s.rsSrc := rfl
@[simp] theorem clearFailure_rsDst (s : State) : (clearFailure s).rsDst = s.rsDst := rfl
@[simp] theorem clearFailure_colorR (s : State) : (clearFailure s).colorR = s.colorR := rfl
@[simp] theorem clearFailure_colorG (s : State) : (clearFailure s).colorG = s.colorG := rfl
@[simp] theorem clearFailure_colorB (s : State) : (clearFailure s).colorB = s.colorB := rfl
@[simp] theorem clearFailure_mver (s : State) : (clearFailure s).mver = s.mver := rfl
@[simp] theorem clearFailure_mlevel (s : State) : (clearFailure s).mlevel = s.mlevel := rfl
@[simp] theorem clearFailure_msize (s : State) : (clearFailure s).msize = s.msize := rfl
@[simp] theorem clearFailure_maskSel (s : State) : (clearFailure s).maskSel = s.maskSel := rfl
@[simp] theorem clearFailure_penSel (s : State) : (clearFailure s).penSel = s.penSel := rfl
@[simp] theorem clearFailure_pen (s : State) : (clearFailure s).pen = s.pen := rfl
@[simp] theorem clearFailure_cwlen (s : State) : (clearFailure s).cwlen = s.cwlen := rfl
@[simp] theorem clearFailure_olen (s : State) : (clearFailure s).olen = s.olen := rfl
@[simp] theorem clearFailure_pending (s : State) : (clearFailure s).pending = s.pending := rfl
@[simp] theorem clearFailure_mem (s : State) : (clearFailure s).mem = s.mem := rfl
@[simp] theorem clearFailure_epoch (s : State) : (clearFailure s).epoch = s.epoch := rfl
@[simp] theorem clearFailure_draws (s : State) : (clearFailure s).draws = s.draws := rfl
@[simp] theorem clearFailure_inputs (s : State) : (clearFailure s).inputs = s.inputs := rfl
@[simp] theorem clearFailure_responses (s : State) : (clearFailure s).responses = s.responses := rfl

/-! ## accept -/

@[simp] theorem accept_colorEn (w : Word) (s : State) : (accept w s).colorEn = s.colorEn := rfl
@[simp] theorem accept_busy (w : Word) (s : State) : (accept w s).busy = true := rfl
@[simp] theorem accept_done (w : Word) (s : State) : (accept w s).done = false := rfl
@[simp] theorem accept_haz (w : Word) (s : State) : (accept w s).haz = s.haz := rfl
@[simp] theorem accept_mstate (w : Word) (s : State) : (accept w s).mstate = s.mstate := rfl
@[simp] theorem accept_ovalid (w : Word) (s : State) : (accept w s).ovalid = s.ovalid := rfl
@[simp] theorem accept_penv (w : Word) (s : State) : (accept w s).penv = s.penv := rfl
@[simp] theorem accept_result (w : Word) (s : State) : (accept w s).result = s.result := rfl
@[simp] theorem accept_errcmd (w : Word) (s : State) : (accept w s).errcmd = s.errcmd := rfl
@[simp] theorem accept_version (w : Word) (s : State) : (accept w s).version = s.version := rfl
@[simp] theorem accept_level (w : Word) (s : State) : (accept w s).level = s.level := rfl
@[simp] theorem accept_rsSrc (w : Word) (s : State) : (accept w s).rsSrc = s.rsSrc := rfl
@[simp] theorem accept_rsDst (w : Word) (s : State) : (accept w s).rsDst = s.rsDst := rfl
@[simp] theorem accept_colorR (w : Word) (s : State) : (accept w s).colorR = s.colorR := rfl
@[simp] theorem accept_colorG (w : Word) (s : State) : (accept w s).colorG = s.colorG := rfl
@[simp] theorem accept_colorB (w : Word) (s : State) : (accept w s).colorB = s.colorB := rfl
@[simp] theorem accept_mver (w : Word) (s : State) : (accept w s).mver = s.mver := rfl
@[simp] theorem accept_mlevel (w : Word) (s : State) : (accept w s).mlevel = s.mlevel := rfl
@[simp] theorem accept_msize (w : Word) (s : State) : (accept w s).msize = s.msize := rfl
@[simp] theorem accept_maskSel (w : Word) (s : State) : (accept w s).maskSel = s.maskSel := rfl
@[simp] theorem accept_penSel (w : Word) (s : State) : (accept w s).penSel = s.penSel := rfl
@[simp] theorem accept_pen (w : Word) (s : State) : (accept w s).pen = s.pen := rfl
@[simp] theorem accept_cwlen (w : Word) (s : State) : (accept w s).cwlen = s.cwlen := rfl
@[simp] theorem accept_olen (w : Word) (s : State) : (accept w s).olen = s.olen := rfl
@[simp] theorem accept_pending (w : Word) (s : State) : (accept w s).pending = w := rfl
@[simp] theorem accept_mem (w : Word) (s : State) : (accept w s).mem = s.mem := rfl
@[simp] theorem accept_epoch (w : Word) (s : State) : (accept w s).epoch = s.epoch := rfl
@[simp] theorem accept_draws (w : Word) (s : State) : (accept w s).draws = s.draws := rfl
@[simp] theorem accept_inputs (w : Word) (s : State) : (accept w s).inputs = s.inputs := rfl
@[simp] theorem accept_responses (w : Word) (s : State) : (accept w s).responses = s.responses := rfl

/-! ## markDone -/

@[simp] theorem markDone_colorEn (s : State) : (markDone s).colorEn = s.colorEn := rfl
@[simp] theorem markDone_busy (s : State) : (markDone s).busy = false := rfl
@[simp] theorem markDone_done (s : State) : (markDone s).done = true := rfl
@[simp] theorem markDone_haz (s : State) : (markDone s).haz = s.haz := rfl
@[simp] theorem markDone_mstate (s : State) : (markDone s).mstate = s.mstate := rfl
@[simp] theorem markDone_ovalid (s : State) : (markDone s).ovalid = s.ovalid := rfl
@[simp] theorem markDone_penv (s : State) : (markDone s).penv = s.penv := rfl
@[simp] theorem markDone_result (s : State) : (markDone s).result = s.result := rfl
@[simp] theorem markDone_errcmd (s : State) : (markDone s).errcmd = s.errcmd := rfl
@[simp] theorem markDone_version (s : State) : (markDone s).version = s.version := rfl
@[simp] theorem markDone_level (s : State) : (markDone s).level = s.level := rfl
@[simp] theorem markDone_rsSrc (s : State) : (markDone s).rsSrc = s.rsSrc := rfl
@[simp] theorem markDone_rsDst (s : State) : (markDone s).rsDst = s.rsDst := rfl
@[simp] theorem markDone_colorR (s : State) : (markDone s).colorR = s.colorR := rfl
@[simp] theorem markDone_colorG (s : State) : (markDone s).colorG = s.colorG := rfl
@[simp] theorem markDone_colorB (s : State) : (markDone s).colorB = s.colorB := rfl
@[simp] theorem markDone_mver (s : State) : (markDone s).mver = s.mver := rfl
@[simp] theorem markDone_mlevel (s : State) : (markDone s).mlevel = s.mlevel := rfl
@[simp] theorem markDone_msize (s : State) : (markDone s).msize = s.msize := rfl
@[simp] theorem markDone_maskSel (s : State) : (markDone s).maskSel = s.maskSel := rfl
@[simp] theorem markDone_penSel (s : State) : (markDone s).penSel = s.penSel := rfl
@[simp] theorem markDone_pen (s : State) : (markDone s).pen = s.pen := rfl
@[simp] theorem markDone_cwlen (s : State) : (markDone s).cwlen = s.cwlen := rfl
@[simp] theorem markDone_olen (s : State) : (markDone s).olen = s.olen := rfl
@[simp] theorem markDone_pending (s : State) : (markDone s).pending = s.pending := rfl
@[simp] theorem markDone_mem (s : State) : (markDone s).mem = s.mem := rfl
@[simp] theorem markDone_epoch (s : State) : (markDone s).epoch = s.epoch := rfl
@[simp] theorem markDone_draws (s : State) : (markDone s).draws = s.draws := rfl
@[simp] theorem markDone_inputs (s : State) : (markDone s).inputs = s.inputs := rfl
@[simp] theorem markDone_responses (s : State) : (markDone s).responses = s.responses := rfl

/-! ## raiseHazard -/

@[simp] theorem raiseHazard_colorEn (s : State) : (raiseHazard s).colorEn = s.colorEn := rfl
@[simp] theorem raiseHazard_busy (s : State) : (raiseHazard s).busy = s.busy := rfl
@[simp] theorem raiseHazard_done (s : State) : (raiseHazard s).done = s.done := rfl
@[simp] theorem raiseHazard_haz (s : State) : (raiseHazard s).haz = true := rfl
@[simp] theorem raiseHazard_mstate (s : State) : (raiseHazard s).mstate = s.mstate := rfl
@[simp] theorem raiseHazard_ovalid (s : State) : (raiseHazard s).ovalid = s.ovalid := rfl
@[simp] theorem raiseHazard_penv (s : State) : (raiseHazard s).penv = s.penv := rfl
@[simp] theorem raiseHazard_result (s : State) : (raiseHazard s).result = s.result := rfl
@[simp] theorem raiseHazard_errcmd (s : State) : (raiseHazard s).errcmd = s.errcmd := rfl
@[simp] theorem raiseHazard_version (s : State) : (raiseHazard s).version = s.version := rfl
@[simp] theorem raiseHazard_level (s : State) : (raiseHazard s).level = s.level := rfl
@[simp] theorem raiseHazard_rsSrc (s : State) : (raiseHazard s).rsSrc = s.rsSrc := rfl
@[simp] theorem raiseHazard_rsDst (s : State) : (raiseHazard s).rsDst = s.rsDst := rfl
@[simp] theorem raiseHazard_colorR (s : State) : (raiseHazard s).colorR = s.colorR := rfl
@[simp] theorem raiseHazard_colorG (s : State) : (raiseHazard s).colorG = s.colorG := rfl
@[simp] theorem raiseHazard_colorB (s : State) : (raiseHazard s).colorB = s.colorB := rfl
@[simp] theorem raiseHazard_mver (s : State) : (raiseHazard s).mver = s.mver := rfl
@[simp] theorem raiseHazard_mlevel (s : State) : (raiseHazard s).mlevel = s.mlevel := rfl
@[simp] theorem raiseHazard_msize (s : State) : (raiseHazard s).msize = s.msize := rfl
@[simp] theorem raiseHazard_maskSel (s : State) : (raiseHazard s).maskSel = s.maskSel := rfl
@[simp] theorem raiseHazard_penSel (s : State) : (raiseHazard s).penSel = s.penSel := rfl
@[simp] theorem raiseHazard_pen (s : State) : (raiseHazard s).pen = s.pen := rfl
@[simp] theorem raiseHazard_cwlen (s : State) : (raiseHazard s).cwlen = s.cwlen := rfl
@[simp] theorem raiseHazard_olen (s : State) : (raiseHazard s).olen = s.olen := rfl
@[simp] theorem raiseHazard_pending (s : State) : (raiseHazard s).pending = s.pending := rfl
@[simp] theorem raiseHazard_mem (s : State) : (raiseHazard s).mem = s.mem := rfl
@[simp] theorem raiseHazard_epoch (s : State) : (raiseHazard s).epoch = s.epoch := rfl
@[simp] theorem raiseHazard_draws (s : State) : (raiseHazard s).draws = s.draws := rfl
@[simp] theorem raiseHazard_inputs (s : State) : (raiseHazard s).inputs = s.inputs := rfl
@[simp] theorem raiseHazard_responses (s : State) : (raiseHazard s).responses = s.responses := rfl

/-! ## softReset -/

@[simp] theorem softReset_colorEn (s : State) : (softReset s).colorEn = false := rfl
@[simp] theorem softReset_busy (s : State) : (softReset s).busy = false := rfl
@[simp] theorem softReset_done (s : State) : (softReset s).done = false := rfl
@[simp] theorem softReset_haz (s : State) : (softReset s).haz = false := rfl
@[simp] theorem softReset_mstate (s : State) : (softReset s).mstate = .empty := rfl
@[simp] theorem softReset_ovalid (s : State) : (softReset s).ovalid = false := rfl
@[simp] theorem softReset_penv (s : State) : (softReset s).penv = 0 := rfl
@[simp] theorem softReset_result (s : State) : (softReset s).result = 0 := rfl
@[simp] theorem softReset_errcmd (s : State) : (softReset s).errcmd = 0 := rfl
@[simp] theorem softReset_version (s : State) : (softReset s).version = 0 := rfl
@[simp] theorem softReset_level (s : State) : (softReset s).level = 1 := rfl
@[simp] theorem softReset_rsSrc (s : State) : (softReset s).rsSrc = 0 := rfl
@[simp] theorem softReset_rsDst (s : State) : (softReset s).rsDst = 0 := rfl
@[simp] theorem softReset_colorR (s : State) : (softReset s).colorR = 0 := rfl
@[simp] theorem softReset_colorG (s : State) : (softReset s).colorG = 0 := rfl
@[simp] theorem softReset_colorB (s : State) : (softReset s).colorB = 0 := rfl
@[simp] theorem softReset_mver (s : State) : (softReset s).mver = 0 := rfl
@[simp] theorem softReset_mlevel (s : State) : (softReset s).mlevel = 0 := rfl
@[simp] theorem softReset_msize (s : State) : (softReset s).msize = 0 := rfl
@[simp] theorem softReset_maskSel (s : State) : (softReset s).maskSel = 0 := rfl
@[simp] theorem softReset_penSel (s : State) : (softReset s).penSel = 0 := rfl
@[simp] theorem softReset_pen (s : State) : (softReset s).pen = Vector.replicate 8 0 := rfl
@[simp] theorem softReset_cwlen (s : State) : (softReset s).cwlen = 0 := rfl
@[simp] theorem softReset_olen (s : State) : (softReset s).olen = 0 := rfl
@[simp] theorem softReset_pending (s : State) : (softReset s).pending = s.pending := rfl
@[simp] theorem softReset_mem (s : State) : (softReset s).mem = s.mem := rfl
@[simp] theorem softReset_epoch (s : State) : (softReset s).epoch = s.epoch := rfl
@[simp] theorem softReset_draws (s : State) : (softReset s).draws = s.draws := rfl
@[simp] theorem softReset_inputs (s : State) : (softReset s).inputs = s.inputs := rfl
@[simp] theorem softReset_responses (s : State) : (softReset s).responses = s.responses := rfl

/-! ## hardReset -/

@[simp] theorem hardReset_colorEn (s : State) : (hardReset s).colorEn = false := rfl
@[simp] theorem hardReset_busy (s : State) : (hardReset s).busy = false := rfl
@[simp] theorem hardReset_done (s : State) : (hardReset s).done = false := rfl
@[simp] theorem hardReset_haz (s : State) : (hardReset s).haz = false := rfl
@[simp] theorem hardReset_mstate (s : State) : (hardReset s).mstate = .empty := rfl
@[simp] theorem hardReset_ovalid (s : State) : (hardReset s).ovalid = false := rfl
@[simp] theorem hardReset_penv (s : State) : (hardReset s).penv = 0 := rfl
@[simp] theorem hardReset_result (s : State) : (hardReset s).result = 0 := rfl
@[simp] theorem hardReset_errcmd (s : State) : (hardReset s).errcmd = 0 := rfl
@[simp] theorem hardReset_version (s : State) : (hardReset s).version = 0 := rfl
@[simp] theorem hardReset_level (s : State) : (hardReset s).level = 1 := rfl
@[simp] theorem hardReset_rsSrc (s : State) : (hardReset s).rsSrc = 0 := rfl
@[simp] theorem hardReset_rsDst (s : State) : (hardReset s).rsDst = 0 := rfl
@[simp] theorem hardReset_colorR (s : State) : (hardReset s).colorR = 0 := rfl
@[simp] theorem hardReset_colorG (s : State) : (hardReset s).colorG = 0 := rfl
@[simp] theorem hardReset_colorB (s : State) : (hardReset s).colorB = 0 := rfl
@[simp] theorem hardReset_mver (s : State) : (hardReset s).mver = 0 := rfl
@[simp] theorem hardReset_mlevel (s : State) : (hardReset s).mlevel = 0 := rfl
@[simp] theorem hardReset_msize (s : State) : (hardReset s).msize = 0 := rfl
@[simp] theorem hardReset_maskSel (s : State) : (hardReset s).maskSel = 0 := rfl
@[simp] theorem hardReset_penSel (s : State) : (hardReset s).penSel = 0 := rfl
@[simp] theorem hardReset_pen (s : State) : (hardReset s).pen = Vector.replicate 8 0 := rfl
@[simp] theorem hardReset_cwlen (s : State) : (hardReset s).cwlen = 0 := rfl
@[simp] theorem hardReset_olen (s : State) : (hardReset s).olen = 0 := rfl
@[simp] theorem hardReset_pending (s : State) : (hardReset s).pending = 0 := rfl
@[simp] theorem hardReset_mem (s : State) : (hardReset s).mem = [] := rfl
@[simp] theorem hardReset_epoch (s : State) : (hardReset s).epoch = s.epoch + 1 := rfl
@[simp] theorem hardReset_draws (s : State) : (hardReset s).draws = s.draws := rfl
@[simp] theorem hardReset_inputs (s : State) : (hardReset s).inputs = s.inputs := rfl
@[simp] theorem hardReset_responses (s : State) : (hardReset s).responses = s.responses := rfl

/-! ## respond -/

@[simp] theorem respond_colorEn (r : Response) (s : State) : (respond r s).colorEn = s.colorEn := rfl
@[simp] theorem respond_busy (r : Response) (s : State) : (respond r s).busy = s.busy := rfl
@[simp] theorem respond_done (r : Response) (s : State) : (respond r s).done = s.done := rfl
@[simp] theorem respond_haz (r : Response) (s : State) : (respond r s).haz = s.haz := rfl
@[simp] theorem respond_mstate (r : Response) (s : State) : (respond r s).mstate = s.mstate := rfl
@[simp] theorem respond_ovalid (r : Response) (s : State) : (respond r s).ovalid = s.ovalid := rfl
@[simp] theorem respond_penv (r : Response) (s : State) : (respond r s).penv = s.penv := rfl
@[simp] theorem respond_result (r : Response) (s : State) : (respond r s).result = s.result := rfl
@[simp] theorem respond_errcmd (r : Response) (s : State) : (respond r s).errcmd = s.errcmd := rfl
@[simp] theorem respond_version (r : Response) (s : State) : (respond r s).version = s.version := rfl
@[simp] theorem respond_level (r : Response) (s : State) : (respond r s).level = s.level := rfl
@[simp] theorem respond_rsSrc (r : Response) (s : State) : (respond r s).rsSrc = s.rsSrc := rfl
@[simp] theorem respond_rsDst (r : Response) (s : State) : (respond r s).rsDst = s.rsDst := rfl
@[simp] theorem respond_colorR (r : Response) (s : State) : (respond r s).colorR = s.colorR := rfl
@[simp] theorem respond_colorG (r : Response) (s : State) : (respond r s).colorG = s.colorG := rfl
@[simp] theorem respond_colorB (r : Response) (s : State) : (respond r s).colorB = s.colorB := rfl
@[simp] theorem respond_mver (r : Response) (s : State) : (respond r s).mver = s.mver := rfl
@[simp] theorem respond_mlevel (r : Response) (s : State) : (respond r s).mlevel = s.mlevel := rfl
@[simp] theorem respond_msize (r : Response) (s : State) : (respond r s).msize = s.msize := rfl
@[simp] theorem respond_maskSel (r : Response) (s : State) : (respond r s).maskSel = s.maskSel := rfl
@[simp] theorem respond_penSel (r : Response) (s : State) : (respond r s).penSel = s.penSel := rfl
@[simp] theorem respond_pen (r : Response) (s : State) : (respond r s).pen = s.pen := rfl
@[simp] theorem respond_cwlen (r : Response) (s : State) : (respond r s).cwlen = s.cwlen := rfl
@[simp] theorem respond_olen (r : Response) (s : State) : (respond r s).olen = s.olen := rfl
@[simp] theorem respond_pending (r : Response) (s : State) : (respond r s).pending = s.pending := rfl
@[simp] theorem respond_mem (r : Response) (s : State) : (respond r s).mem = s.mem := rfl
@[simp] theorem respond_epoch (r : Response) (s : State) : (respond r s).epoch = s.epoch := rfl
@[simp] theorem respond_draws (r : Response) (s : State) : (respond r s).draws = s.draws := rfl
@[simp] theorem respond_inputs (r : Response) (s : State) : (respond r s).inputs = s.inputs := rfl
@[simp] theorem respond_responses (r : Response) (s : State) : (respond r s).responses = r :: s.responses := rfl

/-! ## dropScores -/

@[simp] theorem dropScores_colorEn (s : State) : (dropScores s).colorEn = s.colorEn := rfl
@[simp] theorem dropScores_busy (s : State) : (dropScores s).busy = s.busy := rfl
@[simp] theorem dropScores_done (s : State) : (dropScores s).done = s.done := rfl
@[simp] theorem dropScores_haz (s : State) : (dropScores s).haz = s.haz := rfl
@[simp] theorem dropScores_mstate (s : State) : (dropScores s).mstate = s.mstate := rfl
@[simp] theorem dropScores_ovalid (s : State) : (dropScores s).ovalid = s.ovalid := rfl
@[simp] theorem dropScores_penv (s : State) : (dropScores s).penv = 0 := rfl
@[simp] theorem dropScores_result (s : State) : (dropScores s).result = s.result := rfl
@[simp] theorem dropScores_errcmd (s : State) : (dropScores s).errcmd = s.errcmd := rfl
@[simp] theorem dropScores_version (s : State) : (dropScores s).version = s.version := rfl
@[simp] theorem dropScores_level (s : State) : (dropScores s).level = s.level := rfl
@[simp] theorem dropScores_rsSrc (s : State) : (dropScores s).rsSrc = s.rsSrc := rfl
@[simp] theorem dropScores_rsDst (s : State) : (dropScores s).rsDst = s.rsDst := rfl
@[simp] theorem dropScores_colorR (s : State) : (dropScores s).colorR = s.colorR := rfl
@[simp] theorem dropScores_colorG (s : State) : (dropScores s).colorG = s.colorG := rfl
@[simp] theorem dropScores_colorB (s : State) : (dropScores s).colorB = s.colorB := rfl
@[simp] theorem dropScores_mver (s : State) : (dropScores s).mver = s.mver := rfl
@[simp] theorem dropScores_mlevel (s : State) : (dropScores s).mlevel = s.mlevel := rfl
@[simp] theorem dropScores_msize (s : State) : (dropScores s).msize = s.msize := rfl
@[simp] theorem dropScores_maskSel (s : State) : (dropScores s).maskSel = 0 := rfl
@[simp] theorem dropScores_penSel (s : State) : (dropScores s).penSel = 0 := rfl
@[simp] theorem dropScores_pen (s : State) : (dropScores s).pen = Vector.replicate 8 0 := rfl
@[simp] theorem dropScores_cwlen (s : State) : (dropScores s).cwlen = s.cwlen := rfl
@[simp] theorem dropScores_olen (s : State) : (dropScores s).olen = s.olen := rfl
@[simp] theorem dropScores_pending (s : State) : (dropScores s).pending = s.pending := rfl
@[simp] theorem dropScores_mem (s : State) : (dropScores s).mem = s.mem := rfl
@[simp] theorem dropScores_epoch (s : State) : (dropScores s).epoch = s.epoch := rfl
@[simp] theorem dropScores_draws (s : State) : (dropScores s).draws = s.draws := rfl
@[simp] theorem dropScores_inputs (s : State) : (dropScores s).inputs = s.inputs := rfl
@[simp] theorem dropScores_responses (s : State) : (dropScores s).responses = s.responses := rfl

/-! ## recordPenalty -/

@[simp] theorem recordPenalty_colorEn (m : Nat) (p : Word) (s : State) : (recordPenalty m p s).colorEn = s.colorEn := rfl
@[simp] theorem recordPenalty_busy (m : Nat) (p : Word) (s : State) : (recordPenalty m p s).busy = s.busy := rfl
@[simp] theorem recordPenalty_done (m : Nat) (p : Word) (s : State) : (recordPenalty m p s).done = s.done := rfl
@[simp] theorem recordPenalty_haz (m : Nat) (p : Word) (s : State) : (recordPenalty m p s).haz = s.haz := rfl
@[simp] theorem recordPenalty_mstate (m : Nat) (p : Word) (s : State) : (recordPenalty m p s).mstate = s.mstate := rfl
@[simp] theorem recordPenalty_ovalid (m : Nat) (p : Word) (s : State) : (recordPenalty m p s).ovalid = s.ovalid := rfl
@[simp] theorem recordPenalty_penv (m : Nat) (p : Word) (s : State) : (recordPenalty m p s).penv = setPenv s.penv m := rfl
@[simp] theorem recordPenalty_result (m : Nat) (p : Word) (s : State) : (recordPenalty m p s).result = s.result := rfl
@[simp] theorem recordPenalty_errcmd (m : Nat) (p : Word) (s : State) : (recordPenalty m p s).errcmd = s.errcmd := rfl
@[simp] theorem recordPenalty_version (m : Nat) (p : Word) (s : State) : (recordPenalty m p s).version = s.version := rfl
@[simp] theorem recordPenalty_level (m : Nat) (p : Word) (s : State) : (recordPenalty m p s).level = s.level := rfl
@[simp] theorem recordPenalty_rsSrc (m : Nat) (p : Word) (s : State) : (recordPenalty m p s).rsSrc = s.rsSrc := rfl
@[simp] theorem recordPenalty_rsDst (m : Nat) (p : Word) (s : State) : (recordPenalty m p s).rsDst = s.rsDst := rfl
@[simp] theorem recordPenalty_colorR (m : Nat) (p : Word) (s : State) : (recordPenalty m p s).colorR = s.colorR := rfl
@[simp] theorem recordPenalty_colorG (m : Nat) (p : Word) (s : State) : (recordPenalty m p s).colorG = s.colorG := rfl
@[simp] theorem recordPenalty_colorB (m : Nat) (p : Word) (s : State) : (recordPenalty m p s).colorB = s.colorB := rfl
@[simp] theorem recordPenalty_mver (m : Nat) (p : Word) (s : State) : (recordPenalty m p s).mver = s.mver := rfl
@[simp] theorem recordPenalty_mlevel (m : Nat) (p : Word) (s : State) : (recordPenalty m p s).mlevel = s.mlevel := rfl
@[simp] theorem recordPenalty_msize (m : Nat) (p : Word) (s : State) : (recordPenalty m p s).msize = s.msize := rfl
@[simp] theorem recordPenalty_maskSel (m : Nat) (p : Word) (s : State) : (recordPenalty m p s).maskSel = s.maskSel := rfl
@[simp] theorem recordPenalty_penSel (m : Nat) (p : Word) (s : State) : (recordPenalty m p s).penSel = s.penSel := rfl
@[simp] theorem recordPenalty_pen (m : Nat) (p : Word) (s : State) : (recordPenalty m p s).pen = s.pen.setIfInBounds m p := rfl
@[simp] theorem recordPenalty_cwlen (m : Nat) (p : Word) (s : State) : (recordPenalty m p s).cwlen = s.cwlen := rfl
@[simp] theorem recordPenalty_olen (m : Nat) (p : Word) (s : State) : (recordPenalty m p s).olen = s.olen := rfl
@[simp] theorem recordPenalty_pending (m : Nat) (p : Word) (s : State) : (recordPenalty m p s).pending = s.pending := rfl
@[simp] theorem recordPenalty_mem (m : Nat) (p : Word) (s : State) : (recordPenalty m p s).mem = s.mem := rfl
@[simp] theorem recordPenalty_epoch (m : Nat) (p : Word) (s : State) : (recordPenalty m p s).epoch = s.epoch := rfl
@[simp] theorem recordPenalty_draws (m : Nat) (p : Word) (s : State) : (recordPenalty m p s).draws = s.draws := rfl
@[simp] theorem recordPenalty_inputs (m : Nat) (p : Word) (s : State) : (recordPenalty m p s).inputs = s.inputs := rfl
@[simp] theorem recordPenalty_responses (m : Nat) (p : Word) (s : State) : (recordPenalty m p s).responses = s.responses := rfl

/-! ## rsEncodeWrites -/

@[simp] theorem rsEncodeWrites_colorEn (n k : Nat) (s : State) : (rsEncodeWrites n k s).colorEn = s.colorEn := by simp [rsEncodeWrites]
@[simp] theorem rsEncodeWrites_busy (n k : Nat) (s : State) : (rsEncodeWrites n k s).busy = s.busy := by simp [rsEncodeWrites]
@[simp] theorem rsEncodeWrites_done (n k : Nat) (s : State) : (rsEncodeWrites n k s).done = s.done := by simp [rsEncodeWrites]
@[simp] theorem rsEncodeWrites_haz (n k : Nat) (s : State) : (rsEncodeWrites n k s).haz = s.haz := by simp [rsEncodeWrites]
@[simp] theorem rsEncodeWrites_mstate (n k : Nat) (s : State) : (rsEncodeWrites n k s).mstate = s.mstate := by simp [rsEncodeWrites]
@[simp] theorem rsEncodeWrites_ovalid (n k : Nat) (s : State) : (rsEncodeWrites n k s).ovalid = s.ovalid := by simp [rsEncodeWrites]
@[simp] theorem rsEncodeWrites_penv (n k : Nat) (s : State) : (rsEncodeWrites n k s).penv = s.penv := by simp [rsEncodeWrites]
@[simp] theorem rsEncodeWrites_result (n k : Nat) (s : State) : (rsEncodeWrites n k s).result = s.result := by simp [rsEncodeWrites]
@[simp] theorem rsEncodeWrites_errcmd (n k : Nat) (s : State) : (rsEncodeWrites n k s).errcmd = s.errcmd := by simp [rsEncodeWrites]
@[simp] theorem rsEncodeWrites_version (n k : Nat) (s : State) : (rsEncodeWrites n k s).version = s.version := by simp [rsEncodeWrites]
@[simp] theorem rsEncodeWrites_level (n k : Nat) (s : State) : (rsEncodeWrites n k s).level = s.level := by simp [rsEncodeWrites]
@[simp] theorem rsEncodeWrites_rsSrc (n k : Nat) (s : State) : (rsEncodeWrites n k s).rsSrc = s.rsSrc := by simp [rsEncodeWrites]
@[simp] theorem rsEncodeWrites_rsDst (n k : Nat) (s : State) : (rsEncodeWrites n k s).rsDst = s.rsDst := by simp [rsEncodeWrites]
@[simp] theorem rsEncodeWrites_colorR (n k : Nat) (s : State) : (rsEncodeWrites n k s).colorR = s.colorR := by simp [rsEncodeWrites]
@[simp] theorem rsEncodeWrites_colorG (n k : Nat) (s : State) : (rsEncodeWrites n k s).colorG = s.colorG := by simp [rsEncodeWrites]
@[simp] theorem rsEncodeWrites_colorB (n k : Nat) (s : State) : (rsEncodeWrites n k s).colorB = s.colorB := by simp [rsEncodeWrites]
@[simp] theorem rsEncodeWrites_mver (n k : Nat) (s : State) : (rsEncodeWrites n k s).mver = s.mver := by simp [rsEncodeWrites]
@[simp] theorem rsEncodeWrites_mlevel (n k : Nat) (s : State) : (rsEncodeWrites n k s).mlevel = s.mlevel := by simp [rsEncodeWrites]
@[simp] theorem rsEncodeWrites_msize (n k : Nat) (s : State) : (rsEncodeWrites n k s).msize = s.msize := by simp [rsEncodeWrites]
@[simp] theorem rsEncodeWrites_maskSel (n k : Nat) (s : State) : (rsEncodeWrites n k s).maskSel = s.maskSel := by simp [rsEncodeWrites]
@[simp] theorem rsEncodeWrites_penSel (n k : Nat) (s : State) : (rsEncodeWrites n k s).penSel = s.penSel := by simp [rsEncodeWrites]
@[simp] theorem rsEncodeWrites_pen (n k : Nat) (s : State) : (rsEncodeWrites n k s).pen = s.pen := by simp [rsEncodeWrites]
@[simp] theorem rsEncodeWrites_cwlen (n k : Nat) (s : State) : (rsEncodeWrites n k s).cwlen = s.cwlen := by simp [rsEncodeWrites]
@[simp] theorem rsEncodeWrites_olen (n k : Nat) (s : State) : (rsEncodeWrites n k s).olen = s.olen := by simp [rsEncodeWrites]
@[simp] theorem rsEncodeWrites_pending (n k : Nat) (s : State) : (rsEncodeWrites n k s).pending = s.pending := by simp [rsEncodeWrites]
@[simp] theorem rsEncodeWrites_epoch (n k : Nat) (s : State) : (rsEncodeWrites n k s).epoch = s.epoch := by simp [rsEncodeWrites]
@[simp] theorem rsEncodeWrites_draws (n k : Nat) (s : State) : (rsEncodeWrites n k s).draws = s.draws := by simp [rsEncodeWrites]
@[simp] theorem rsEncodeWrites_inputs (n k : Nat) (s : State) : (rsEncodeWrites n k s).inputs = s.inputs := by simp [rsEncodeWrites]
@[simp] theorem rsEncodeWrites_responses (n k : Nat) (s : State) : (rsEncodeWrites n k s).responses = s.responses := by simp [rsEncodeWrites]

/-! ## eccSymbolWrites -/

@[simp] theorem eccSymbolWrites_colorEn (s : State) : (eccSymbolWrites s).colorEn = s.colorEn := by simp [eccSymbolWrites]
@[simp] theorem eccSymbolWrites_busy (s : State) : (eccSymbolWrites s).busy = s.busy := by simp [eccSymbolWrites]
@[simp] theorem eccSymbolWrites_done (s : State) : (eccSymbolWrites s).done = s.done := by simp [eccSymbolWrites]
@[simp] theorem eccSymbolWrites_haz (s : State) : (eccSymbolWrites s).haz = s.haz := by simp [eccSymbolWrites]
@[simp] theorem eccSymbolWrites_mstate (s : State) : (eccSymbolWrites s).mstate = s.mstate := by simp [eccSymbolWrites]
@[simp] theorem eccSymbolWrites_ovalid (s : State) : (eccSymbolWrites s).ovalid = s.ovalid := by simp [eccSymbolWrites]
@[simp] theorem eccSymbolWrites_penv (s : State) : (eccSymbolWrites s).penv = s.penv := by simp [eccSymbolWrites]
@[simp] theorem eccSymbolWrites_result (s : State) : (eccSymbolWrites s).result = s.result := by simp [eccSymbolWrites]
@[simp] theorem eccSymbolWrites_errcmd (s : State) : (eccSymbolWrites s).errcmd = s.errcmd := by simp [eccSymbolWrites]
@[simp] theorem eccSymbolWrites_version (s : State) : (eccSymbolWrites s).version = s.version := by simp [eccSymbolWrites]
@[simp] theorem eccSymbolWrites_level (s : State) : (eccSymbolWrites s).level = s.level := by simp [eccSymbolWrites]
@[simp] theorem eccSymbolWrites_rsSrc (s : State) : (eccSymbolWrites s).rsSrc = s.rsSrc := by simp [eccSymbolWrites]
@[simp] theorem eccSymbolWrites_rsDst (s : State) : (eccSymbolWrites s).rsDst = s.rsDst := by simp [eccSymbolWrites]
@[simp] theorem eccSymbolWrites_colorR (s : State) : (eccSymbolWrites s).colorR = s.colorR := by simp [eccSymbolWrites]
@[simp] theorem eccSymbolWrites_colorG (s : State) : (eccSymbolWrites s).colorG = s.colorG := by simp [eccSymbolWrites]
@[simp] theorem eccSymbolWrites_colorB (s : State) : (eccSymbolWrites s).colorB = s.colorB := by simp [eccSymbolWrites]
@[simp] theorem eccSymbolWrites_mver (s : State) : (eccSymbolWrites s).mver = s.mver := by simp [eccSymbolWrites]
@[simp] theorem eccSymbolWrites_mlevel (s : State) : (eccSymbolWrites s).mlevel = s.mlevel := by simp [eccSymbolWrites]
@[simp] theorem eccSymbolWrites_msize (s : State) : (eccSymbolWrites s).msize = s.msize := by simp [eccSymbolWrites]
@[simp] theorem eccSymbolWrites_maskSel (s : State) : (eccSymbolWrites s).maskSel = s.maskSel := by simp [eccSymbolWrites]
@[simp] theorem eccSymbolWrites_penSel (s : State) : (eccSymbolWrites s).penSel = s.penSel := by simp [eccSymbolWrites]
@[simp] theorem eccSymbolWrites_pen (s : State) : (eccSymbolWrites s).pen = s.pen := by simp [eccSymbolWrites]
@[simp] theorem eccSymbolWrites_cwlen (s : State) : (eccSymbolWrites s).cwlen = s.cwlen := by simp [eccSymbolWrites]
@[simp] theorem eccSymbolWrites_olen (s : State) : (eccSymbolWrites s).olen = s.olen := by simp [eccSymbolWrites]
@[simp] theorem eccSymbolWrites_pending (s : State) : (eccSymbolWrites s).pending = s.pending := by simp [eccSymbolWrites]
@[simp] theorem eccSymbolWrites_epoch (s : State) : (eccSymbolWrites s).epoch = s.epoch := by simp [eccSymbolWrites]
@[simp] theorem eccSymbolWrites_draws (s : State) : (eccSymbolWrites s).draws = s.draws := by simp [eccSymbolWrites]
@[simp] theorem eccSymbolWrites_inputs (s : State) : (eccSymbolWrites s).inputs = s.inputs := by simp [eccSymbolWrites]
@[simp] theorem eccSymbolWrites_responses (s : State) : (eccSymbolWrites s).responses = s.responses := by simp [eccSymbolWrites]

/-! ## frameWrites -/

@[simp] theorem frameWrites_colorEn (s : State) : (frameWrites s).colorEn = s.colorEn := by simp [frameWrites]
@[simp] theorem frameWrites_busy (s : State) : (frameWrites s).busy = s.busy := by simp [frameWrites]
@[simp] theorem frameWrites_done (s : State) : (frameWrites s).done = s.done := by simp [frameWrites]
@[simp] theorem frameWrites_haz (s : State) : (frameWrites s).haz = s.haz := by simp [frameWrites]
@[simp] theorem frameWrites_mstate (s : State) : (frameWrites s).mstate = .framed := by simp [frameWrites]
@[simp] theorem frameWrites_ovalid (s : State) : (frameWrites s).ovalid = s.ovalid := by simp [frameWrites]
@[simp] theorem frameWrites_penv (s : State) : (frameWrites s).penv = 0 := by simp [frameWrites]
@[simp] theorem frameWrites_result (s : State) : (frameWrites s).result = s.result := by simp [frameWrites]
@[simp] theorem frameWrites_errcmd (s : State) : (frameWrites s).errcmd = s.errcmd := by simp [frameWrites]
@[simp] theorem frameWrites_version (s : State) : (frameWrites s).version = s.version := by simp [frameWrites]
@[simp] theorem frameWrites_level (s : State) : (frameWrites s).level = s.level := by simp [frameWrites]
@[simp] theorem frameWrites_rsSrc (s : State) : (frameWrites s).rsSrc = s.rsSrc := by simp [frameWrites]
@[simp] theorem frameWrites_rsDst (s : State) : (frameWrites s).rsDst = s.rsDst := by simp [frameWrites]
@[simp] theorem frameWrites_colorR (s : State) : (frameWrites s).colorR = s.colorR := by simp [frameWrites]
@[simp] theorem frameWrites_colorG (s : State) : (frameWrites s).colorG = s.colorG := by simp [frameWrites]
@[simp] theorem frameWrites_colorB (s : State) : (frameWrites s).colorB = s.colorB := by simp [frameWrites]
@[simp] theorem frameWrites_mver (s : State) : (frameWrites s).mver = s.version := by simp [frameWrites]
@[simp] theorem frameWrites_mlevel (s : State) : (frameWrites s).mlevel = 0 := by simp [frameWrites]
@[simp] theorem frameWrites_msize (s : State) : (frameWrites s).msize = BitVec.ofNat 8 (side s.versionOperand) := by simp [frameWrites]
@[simp] theorem frameWrites_maskSel (s : State) : (frameWrites s).maskSel = 0 := by simp [frameWrites]
@[simp] theorem frameWrites_penSel (s : State) : (frameWrites s).penSel = 0 := by simp [frameWrites]
@[simp] theorem frameWrites_pen (s : State) : (frameWrites s).pen = Vector.replicate 8 0 := by simp [frameWrites]
@[simp] theorem frameWrites_cwlen (s : State) : (frameWrites s).cwlen = 0 := by simp [frameWrites]
@[simp] theorem frameWrites_olen (s : State) : (frameWrites s).olen = s.olen := by simp [frameWrites]
@[simp] theorem frameWrites_pending (s : State) : (frameWrites s).pending = s.pending := by simp [frameWrites]
@[simp] theorem frameWrites_epoch (s : State) : (frameWrites s).epoch = s.epoch := by simp [frameWrites]
@[simp] theorem frameWrites_draws (s : State) : (frameWrites s).draws = s.draws := by simp [frameWrites]
@[simp] theorem frameWrites_inputs (s : State) : (frameWrites s).inputs = s.inputs := by simp [frameWrites]
@[simp] theorem frameWrites_responses (s : State) : (frameWrites s).responses = s.responses := by simp [frameWrites]

/-! ## placeWrites -/

@[simp] theorem placeWrites_colorEn (s : State) : (placeWrites s).colorEn = s.colorEn := by simp [placeWrites]
@[simp] theorem placeWrites_busy (s : State) : (placeWrites s).busy = s.busy := by simp [placeWrites]
@[simp] theorem placeWrites_done (s : State) : (placeWrites s).done = s.done := by simp [placeWrites]
@[simp] theorem placeWrites_haz (s : State) : (placeWrites s).haz = s.haz := by simp [placeWrites]
@[simp] theorem placeWrites_mstate (s : State) : (placeWrites s).mstate = .placed := by simp [placeWrites]
@[simp] theorem placeWrites_ovalid (s : State) : (placeWrites s).ovalid = s.ovalid := by simp [placeWrites]
@[simp] theorem placeWrites_penv (s : State) : (placeWrites s).penv = 0 := by simp [placeWrites]
@[simp] theorem placeWrites_result (s : State) : (placeWrites s).result = s.result := by simp [placeWrites]
@[simp] theorem placeWrites_errcmd (s : State) : (placeWrites s).errcmd = s.errcmd := by simp [placeWrites]
@[simp] theorem placeWrites_version (s : State) : (placeWrites s).version = s.version := by simp [placeWrites]
@[simp] theorem placeWrites_level (s : State) : (placeWrites s).level = s.level := by simp [placeWrites]
@[simp] theorem placeWrites_rsSrc (s : State) : (placeWrites s).rsSrc = s.rsSrc := by simp [placeWrites]
@[simp] theorem placeWrites_rsDst (s : State) : (placeWrites s).rsDst = s.rsDst := by simp [placeWrites]
@[simp] theorem placeWrites_colorR (s : State) : (placeWrites s).colorR = s.colorR := by simp [placeWrites]
@[simp] theorem placeWrites_colorG (s : State) : (placeWrites s).colorG = s.colorG := by simp [placeWrites]
@[simp] theorem placeWrites_colorB (s : State) : (placeWrites s).colorB = s.colorB := by simp [placeWrites]
@[simp] theorem placeWrites_mver (s : State) : (placeWrites s).mver = s.mver := by simp [placeWrites]
@[simp] theorem placeWrites_mlevel (s : State) : (placeWrites s).mlevel = s.level := by simp [placeWrites]
@[simp] theorem placeWrites_msize (s : State) : (placeWrites s).msize = s.msize := by simp [placeWrites]
@[simp] theorem placeWrites_maskSel (s : State) : (placeWrites s).maskSel = 0 := by simp [placeWrites]
@[simp] theorem placeWrites_penSel (s : State) : (placeWrites s).penSel = 0 := by simp [placeWrites]
@[simp] theorem placeWrites_pen (s : State) : (placeWrites s).pen = Vector.replicate 8 0 := by simp [placeWrites]
@[simp] theorem placeWrites_cwlen (s : State) : (placeWrites s).cwlen = BitVec.ofNat 12 (totalCodewords s.latchedVersion) := by simp [placeWrites]
@[simp] theorem placeWrites_olen (s : State) : (placeWrites s).olen = s.olen := by simp [placeWrites]
@[simp] theorem placeWrites_pending (s : State) : (placeWrites s).pending = s.pending := by simp [placeWrites]
@[simp] theorem placeWrites_epoch (s : State) : (placeWrites s).epoch = s.epoch := by simp [placeWrites]
@[simp] theorem placeWrites_draws (s : State) : (placeWrites s).draws = s.draws := by simp [placeWrites]
@[simp] theorem placeWrites_inputs (s : State) : (placeWrites s).inputs = s.inputs := by simp [placeWrites]
@[simp] theorem placeWrites_responses (s : State) : (placeWrites s).responses = s.responses := by simp [placeWrites]

/-! ## evalWrites -/

@[simp] theorem evalWrites_colorEn (m : Nat) (s : State) : (evalWrites m s).colorEn = s.colorEn := by simp [evalWrites]
@[simp] theorem evalWrites_busy (m : Nat) (s : State) : (evalWrites m s).busy = s.busy := by simp [evalWrites]
@[simp] theorem evalWrites_done (m : Nat) (s : State) : (evalWrites m s).done = s.done := by simp [evalWrites]
@[simp] theorem evalWrites_haz (m : Nat) (s : State) : (evalWrites m s).haz = s.haz := by simp [evalWrites]
@[simp] theorem evalWrites_mstate (m : Nat) (s : State) : (evalWrites m s).mstate = s.mstate := by simp [evalWrites]
@[simp] theorem evalWrites_ovalid (m : Nat) (s : State) : (evalWrites m s).ovalid = s.ovalid := by simp [evalWrites]
@[simp] theorem evalWrites_penv (m : Nat) (s : State) : (evalWrites m s).penv = setPenv s.penv m := by simp [evalWrites]
@[simp] theorem evalWrites_result (m : Nat) (s : State) : (evalWrites m s).result = s.result := by simp [evalWrites]
@[simp] theorem evalWrites_errcmd (m : Nat) (s : State) : (evalWrites m s).errcmd = s.errcmd := by simp [evalWrites]
@[simp] theorem evalWrites_version (m : Nat) (s : State) : (evalWrites m s).version = s.version := by simp [evalWrites]
@[simp] theorem evalWrites_level (m : Nat) (s : State) : (evalWrites m s).level = s.level := by simp [evalWrites]
@[simp] theorem evalWrites_rsSrc (m : Nat) (s : State) : (evalWrites m s).rsSrc = s.rsSrc := by simp [evalWrites]
@[simp] theorem evalWrites_rsDst (m : Nat) (s : State) : (evalWrites m s).rsDst = s.rsDst := by simp [evalWrites]
@[simp] theorem evalWrites_colorR (m : Nat) (s : State) : (evalWrites m s).colorR = s.colorR := by simp [evalWrites]
@[simp] theorem evalWrites_colorG (m : Nat) (s : State) : (evalWrites m s).colorG = s.colorG := by simp [evalWrites]
@[simp] theorem evalWrites_colorB (m : Nat) (s : State) : (evalWrites m s).colorB = s.colorB := by simp [evalWrites]
@[simp] theorem evalWrites_mver (m : Nat) (s : State) : (evalWrites m s).mver = s.mver := by simp [evalWrites]
@[simp] theorem evalWrites_mlevel (m : Nat) (s : State) : (evalWrites m s).mlevel = s.mlevel := by simp [evalWrites]
@[simp] theorem evalWrites_msize (m : Nat) (s : State) : (evalWrites m s).msize = s.msize := by simp [evalWrites]
@[simp] theorem evalWrites_maskSel (m : Nat) (s : State) : (evalWrites m s).maskSel = s.maskSel := by simp [evalWrites]
@[simp] theorem evalWrites_penSel (m : Nat) (s : State) : (evalWrites m s).penSel = s.penSel := by simp [evalWrites]
@[simp] theorem evalWrites_pen (m : Nat) (s : State) : (evalWrites m s).pen = s.pen.setIfInBounds m (s.candidatePenalty m) := by simp [evalWrites]
@[simp] theorem evalWrites_cwlen (m : Nat) (s : State) : (evalWrites m s).cwlen = s.cwlen := by simp [evalWrites]
@[simp] theorem evalWrites_olen (m : Nat) (s : State) : (evalWrites m s).olen = s.olen := by simp [evalWrites]
@[simp] theorem evalWrites_pending (m : Nat) (s : State) : (evalWrites m s).pending = s.pending := by simp [evalWrites]
@[simp] theorem evalWrites_mem (m : Nat) (s : State) : (evalWrites m s).mem = s.mem := by simp [evalWrites]
@[simp] theorem evalWrites_epoch (m : Nat) (s : State) : (evalWrites m s).epoch = s.epoch := by simp [evalWrites]
@[simp] theorem evalWrites_draws (m : Nat) (s : State) : (evalWrites m s).draws = s.draws := by simp [evalWrites]
@[simp] theorem evalWrites_inputs (m : Nat) (s : State) : (evalWrites m s).inputs = s.inputs := by simp [evalWrites]
@[simp] theorem evalWrites_responses (m : Nat) (s : State) : (evalWrites m s).responses = s.responses := by simp [evalWrites]

/-! ## maskWrites -/

@[simp] theorem maskWrites_colorEn (m : Nat) (s : State) : (maskWrites m s).colorEn = s.colorEn := by simp [maskWrites]
@[simp] theorem maskWrites_busy (m : Nat) (s : State) : (maskWrites m s).busy = s.busy := by simp [maskWrites]
@[simp] theorem maskWrites_done (m : Nat) (s : State) : (maskWrites m s).done = s.done := by simp [maskWrites]
@[simp] theorem maskWrites_haz (m : Nat) (s : State) : (maskWrites m s).haz = s.haz := by simp [maskWrites]
@[simp] theorem maskWrites_mstate (m : Nat) (s : State) : (maskWrites m s).mstate = .masked := by simp [maskWrites]
@[simp] theorem maskWrites_ovalid (m : Nat) (s : State) : (maskWrites m s).ovalid = s.ovalid := by simp [maskWrites]
@[simp] theorem maskWrites_penv (m : Nat) (s : State) : (maskWrites m s).penv = setPenv s.penv m := by simp [maskWrites]
@[simp] theorem maskWrites_result (m : Nat) (s : State) : (maskWrites m s).result = s.result := by simp [maskWrites]
@[simp] theorem maskWrites_errcmd (m : Nat) (s : State) : (maskWrites m s).errcmd = s.errcmd := by simp [maskWrites]
@[simp] theorem maskWrites_version (m : Nat) (s : State) : (maskWrites m s).version = s.version := by simp [maskWrites]
@[simp] theorem maskWrites_level (m : Nat) (s : State) : (maskWrites m s).level = s.level := by simp [maskWrites]
@[simp] theorem maskWrites_rsSrc (m : Nat) (s : State) : (maskWrites m s).rsSrc = s.rsSrc := by simp [maskWrites]
@[simp] theorem maskWrites_rsDst (m : Nat) (s : State) : (maskWrites m s).rsDst = s.rsDst := by simp [maskWrites]
@[simp] theorem maskWrites_colorR (m : Nat) (s : State) : (maskWrites m s).colorR = s.colorR := by simp [maskWrites]
@[simp] theorem maskWrites_colorG (m : Nat) (s : State) : (maskWrites m s).colorG = s.colorG := by simp [maskWrites]
@[simp] theorem maskWrites_colorB (m : Nat) (s : State) : (maskWrites m s).colorB = s.colorB := by simp [maskWrites]
@[simp] theorem maskWrites_mver (m : Nat) (s : State) : (maskWrites m s).mver = s.mver := by simp [maskWrites]
@[simp] theorem maskWrites_mlevel (m : Nat) (s : State) : (maskWrites m s).mlevel = s.mlevel := by simp [maskWrites]
@[simp] theorem maskWrites_msize (m : Nat) (s : State) : (maskWrites m s).msize = s.msize := by simp [maskWrites]
@[simp] theorem maskWrites_maskSel (m : Nat) (s : State) : (maskWrites m s).maskSel = BitVec.ofNat 3 m := by simp [maskWrites]
@[simp] theorem maskWrites_penSel (m : Nat) (s : State) : (maskWrites m s).penSel = s.candidatePenalty m := by simp [maskWrites]
@[simp] theorem maskWrites_pen (m : Nat) (s : State) : (maskWrites m s).pen = s.pen.setIfInBounds m (s.candidatePenalty m) := by simp [maskWrites]
@[simp] theorem maskWrites_cwlen (m : Nat) (s : State) : (maskWrites m s).cwlen = s.cwlen := by simp [maskWrites]
@[simp] theorem maskWrites_olen (m : Nat) (s : State) : (maskWrites m s).olen = s.olen := by simp [maskWrites]
@[simp] theorem maskWrites_pending (m : Nat) (s : State) : (maskWrites m s).pending = s.pending := by simp [maskWrites]
@[simp] theorem maskWrites_epoch (m : Nat) (s : State) : (maskWrites m s).epoch = s.epoch := by simp [maskWrites]
@[simp] theorem maskWrites_draws (m : Nat) (s : State) : (maskWrites m s).draws = s.draws := by simp [maskWrites]
@[simp] theorem maskWrites_inputs (m : Nat) (s : State) : (maskWrites m s).inputs = s.inputs := by simp [maskWrites]
@[simp] theorem maskWrites_responses (m : Nat) (s : State) : (maskWrites m s).responses = s.responses := by simp [maskWrites]

/-! ## pngWrites -/

@[simp] theorem pngWrites_colorEn (s : State) : (pngWrites s).colorEn = s.colorEn := by simp [pngWrites]
@[simp] theorem pngWrites_busy (s : State) : (pngWrites s).busy = s.busy := by simp [pngWrites]
@[simp] theorem pngWrites_done (s : State) : (pngWrites s).done = s.done := by simp [pngWrites]
@[simp] theorem pngWrites_haz (s : State) : (pngWrites s).haz = s.haz := by simp [pngWrites]
@[simp] theorem pngWrites_mstate (s : State) : (pngWrites s).mstate = s.mstate := by simp [pngWrites]
@[simp] theorem pngWrites_ovalid (s : State) : (pngWrites s).ovalid = true := by simp [pngWrites]
@[simp] theorem pngWrites_penv (s : State) : (pngWrites s).penv = s.penv := by simp [pngWrites]
@[simp] theorem pngWrites_result (s : State) : (pngWrites s).result = s.result := by simp [pngWrites]
@[simp] theorem pngWrites_errcmd (s : State) : (pngWrites s).errcmd = s.errcmd := by simp [pngWrites]
@[simp] theorem pngWrites_version (s : State) : (pngWrites s).version = s.version := by simp [pngWrites]
@[simp] theorem pngWrites_level (s : State) : (pngWrites s).level = s.level := by simp [pngWrites]
@[simp] theorem pngWrites_rsSrc (s : State) : (pngWrites s).rsSrc = s.rsSrc := by simp [pngWrites]
@[simp] theorem pngWrites_rsDst (s : State) : (pngWrites s).rsDst = s.rsDst := by simp [pngWrites]
@[simp] theorem pngWrites_colorR (s : State) : (pngWrites s).colorR = s.colorR := by simp [pngWrites]
@[simp] theorem pngWrites_colorG (s : State) : (pngWrites s).colorG = s.colorG := by simp [pngWrites]
@[simp] theorem pngWrites_colorB (s : State) : (pngWrites s).colorB = s.colorB := by simp [pngWrites]
@[simp] theorem pngWrites_mver (s : State) : (pngWrites s).mver = s.mver := by simp [pngWrites]
@[simp] theorem pngWrites_mlevel (s : State) : (pngWrites s).mlevel = s.mlevel := by simp [pngWrites]
@[simp] theorem pngWrites_msize (s : State) : (pngWrites s).msize = s.msize := by simp [pngWrites]
@[simp] theorem pngWrites_maskSel (s : State) : (pngWrites s).maskSel = s.maskSel := by simp [pngWrites]
@[simp] theorem pngWrites_penSel (s : State) : (pngWrites s).penSel = s.penSel := by simp [pngWrites]
@[simp] theorem pngWrites_pen (s : State) : (pngWrites s).pen = s.pen := by simp [pngWrites]
@[simp] theorem pngWrites_cwlen (s : State) : (pngWrites s).cwlen = s.cwlen := by simp [pngWrites]
@[simp] theorem pngWrites_olen (s : State) : (pngWrites s).olen = BitVec.ofNat 18 s.pngBytes.length := by simp [pngWrites]
@[simp] theorem pngWrites_pending (s : State) : (pngWrites s).pending = s.pending := by simp [pngWrites]
@[simp] theorem pngWrites_epoch (s : State) : (pngWrites s).epoch = s.epoch := by simp [pngWrites]
@[simp] theorem pngWrites_draws (s : State) : (pngWrites s).draws = s.draws := by simp [pngWrites]
@[simp] theorem pngWrites_inputs (s : State) : (pngWrites s).inputs = s.inputs := by simp [pngWrites]
@[simp] theorem pngWrites_responses (s : State) : (pngWrites s).responses = s.responses := by simp [pngWrites]

end Sys2Proof.Machine
end

