-- ==== Sys2Proof/Laws/Exec.lean ====
section
/-! SUPPORT. What a command, a completion and a step can do, said once; and what each command's writes do to one byte. -/

namespace Sys2Proof.Machine

/-! ## Preconditions and outcomes -/

@[simp] theorem firstFailure_nil : firstFailure [] = none := rfl

@[simp] theorem firstFailure_cons (h : Bool) (k : ResultKind) (rest : List (Bool × ResultKind)) :
    firstFailure ((h, k) :: rest) = if h then firstFailure rest else some k := rfl

theorem runCommand_skipped (check : State → Option ResultKind) (writes : State → State) (s : State)
    (h : s.result ≠ 0) : runCommand check writes s = .next s := by
  rw [runCommand, if_pos h]

theorem runCommand_fails (check : State → Option ResultKind) (writes : State → State) (s : State) (k : ResultKind)
    (h : s.result = 0) (hc : check s = some k) : runCommand check writes s = .next (fail k s) := by
  rw [runCommand, if_neg (not_not_intro h), hc]

theorem runCommand_succeeds (check : State → Option ResultKind) (writes : State → State) (s : State)
    (h : s.result = 0) (hc : check s = none) : runCommand check writes s = .next (writes s) := by
  rw [runCommand, if_neg (not_not_intro h), hc]

theorem next_inj {s t : State} (h : (Host.Outcome.next s : Host.Outcome State Fault Refusal) = .next t) : t = s := by
  injection h with h
  exact h.symm

/-- The three outcomes of a command: skipped, failed, or all its writes (00_scope.md R13). -/
theorem runCommand_cases (check : State → Option ResultKind) (writes : State → State) (s t : State)
    (h : runCommand check writes s = .next t) :
    (s.result ≠ 0 ∧ t = s) ∨ (s.result = 0 ∧ ∃ k, check s = some k ∧ t = fail k s) ∨
      (s.result = 0 ∧ check s = none ∧ t = writes s) := by
  by_cases hr : s.result = 0
  · right
    cases hc : check s with
    | none =>
      rw [runCommand_succeeds check writes s hr hc] at h
      exact .inr ⟨hr, rfl, next_inj h⟩
    | some k =>
      rw [runCommand_fails check writes s k hr hc] at h
      exact .inl ⟨hr, k, rfl, next_inj h⟩
  · rw [runCommand_skipped check writes s hr] at h
    exact .inl ⟨hr, next_inj h⟩

/-- A command always gives a next state. -/
theorem runCommand_next (check : State → Option ResultKind) (writes : State → State) (s : State) :
    ∃ t, runCommand check writes s = .next t := by
  by_cases hr : s.result = 0
  · cases hc : check s with
    | none => exact ⟨_, runCommand_succeeds check writes s hr hc⟩
    | some k => exact ⟨_, runCommand_fails check writes s k hr hc⟩
  · exact ⟨_, runCommand_skipped check writes s hr⟩

/-! ## Each command as an instance of the shared operation -/

theorem exec_nop (s : State) : exec .nop s = runCommand (fun _ => none) (fun t => t) s := rfl
theorem exec_clear (s : State) : exec .clear s = .next (clearFailure s) := rfl
theorem exec_reset (s : State) : exec .reset s = .next (softReset s) := rfl
theorem exec_rsEncode (n k : Nat) (s : State) :
    exec (.rsEncode n k) s = runCommand (rsEncodeCheck n k) (rsEncodeWrites n k) s := rfl
theorem exec_eccSymbol (s : State) : exec .eccSymbol s = runCommand versionCheck eccSymbolWrites s := rfl
theorem exec_matFrame (s : State) : exec .matFrame s = runCommand versionCheck frameWrites s := rfl
theorem exec_matPlace (s : State) : exec .matPlace s = runCommand placeCheck placeWrites s := rfl
theorem exec_matEval (m : Nat) (s : State) : exec (.matEval m) s = runCommand placedCheck (evalWrites m) s := rfl
theorem exec_matMask (m : Nat) (s : State) : exec (.matMask m) s = runCommand placedCheck (maskWrites m) s := rfl
theorem exec_matBuild (s : State) : exec .matBuild s = runCommand versionCheck buildWrites s := rfl
theorem exec_pngWrite (s : State) : exec .pngWrite s = runCommand (pngCheck Config.obufSize) pngWrites s := rfl

theorem versionCheck_none (s : State) : versionCheck s = none ↔ legalVersion s.versionOperand = true := by
  unfold versionCheck
  cases legalVersion s.versionOperand <;> simp

theorem versionCheck_some (s : State) (k : ResultKind) :
    versionCheck s = some k ↔ legalVersion s.versionOperand = false ∧ k = .unexpectedInput := by
  unfold versionCheck
  cases legalVersion s.versionOperand <;> simp [eq_comm]

theorem placeCheck_none (s : State) : placeCheck s = none ↔ s.mstate ≠ .empty := by
  unfold placeCheck
  cases s.mstate <;> simp

theorem placeCheck_some (s : State) (k : ResultKind) :
    placeCheck s = some k ↔ s.mstate = .empty ∧ k = .noSymbolProduced := by
  unfold placeCheck
  cases s.mstate <;> simp [eq_comm]

theorem placedCheck_none (s : State) : placedCheck s = none ↔ s.mstate = .placed := by
  unfold placedCheck
  cases s.mstate <;> simp

theorem placedCheck_some (s : State) (k : ResultKind) :
    placedCheck s = some k ↔ s.mstate ≠ .placed ∧ k = .noSymbolProduced := by
  unfold placedCheck
  cases s.mstate <;> simp [eq_comm]

/-! ## What the writes of each command do to one byte -/

/-- A record update of registers changes no byte: bytes depend on the memory and the epoch alone. -/
theorem byteAt_congr (s t : State) (a : Nat) (hm : t.mem = s.mem) (he : t.epoch = s.epoch) : t.byteAt a = s.byteAt a := by
  unfold State.byteAt
  rw [hm, he]

theorem moduleAt_congr (s t : State) (x y : Nat) (hm : t.mem = s.mem) (he : t.epoch = s.epoch) :
    t.moduleAt x y = s.moduleAt x y := by
  unfold State.moduleAt
  rw [byteAt_congr s t _ hm he]

/-- The module array depends on the memory and the epoch alone. -/
theorem readMatrix_congr (s t : State) (n : Nat) (hm : t.mem = s.mem) (he : t.epoch = s.epoch) :
    t.readMatrix n = s.readMatrix n := by
  unfold State.readMatrix
  congr 1
  funext x y
  exact moduleAt_congr s t x y hm he

theorem byteAt_rsEncodeWrites (n k : Nat) (s : State) (a : Nat) :
    (rsEncodeWrites n k s).byteAt a =
      (storeBytes (Config.ebufBase + s.dstOperand) (rsenc (s.dataBlock s.srcOperand k) n) s).byteAt a := rfl

theorem byteAt_frameWrites (s : State) (a : Nat) :
    (frameWrites s).byteAt a =
      (storeMatrix (matTabulate Config.matDim (framedModule s.versionOperand)) Config.matDim s).byteAt a :=
  byteAt_congr _ _ _ (by simp [frameWrites]) (by simp [frameWrites])

theorem byteAt_placeWrites (s : State) (a : Nat) :
    (placeWrites s).byteAt a =
      (storeMatrix (place s.latchedVersion (s.readMatrix (side s.latchedVersion)) s.placedCodewords)
        (side s.latchedVersion) (storeBytes Config.cwbufBase s.placedCodewords s)).byteAt a :=
  byteAt_congr _ _ _ (by simp [placeWrites]) (by simp [placeWrites])

theorem byteAt_evalWrites (m : Nat) (s : State) (a : Nat) : (evalWrites m s).byteAt a = s.byteAt a :=
  byteAt_congr _ _ _ (by simp) (by simp)

theorem byteAt_maskWrites (m : Nat) (s : State) (a : Nat) :
    (maskWrites m s).byteAt a = (storeMatrix (s.candidate m) s.latchedSize s).byteAt a :=
  byteAt_congr _ _ _ (by simp [maskWrites]) (by simp [maskWrites])

theorem byteAt_pngWrites (s : State) (a : Nat) :
    (pngWrites s).byteAt a = (storeBytes Config.obufBase s.pngBytes s).byteAt a :=
  byteAt_congr _ _ _ (by simp [pngWrites]) (by simp [pngWrites])

/-! ## Lengths -/

theorem mulByRoot_length (p : List Byte) (root : Byte) : (mulByRoot p root).length = p.length + 1 := by
  simp [mulByRoot]

@[simp] theorem genPoly_length (n : Nat) : (genPoly n).length = n + 1 := by
  induction n with
  | zero => rfl
  | succ n ih => rw [genPoly, mulByRoot_length, ih]

theorem rsShift_length (taps r : List Byte) (d : Byte) (h : r.length = taps.length) (hr : 0 < r.length) :
    (rsShift taps r d).length = taps.length := by
  simp [rsShift]
  omega

/-- RSENC always gives exactly n bytes (41_rs_encoder.md R155). -/
theorem rsenc_length (d : List Byte) (n : Nat) (hn : 0 < n) : (rsenc d n).length = n := by
  have hloop : ∀ (l r : List Byte), r.length = n → (l.foldl (rsShift (genPoly n).tail) r).length = n := by
    intro l
    induction l with
    | nil => exact fun r hr => hr
    | cons x l ih =>
      intro r hr
      rw [List.foldl_cons]
      refine ih _ ?_
      rw [rsShift_length _ _ _ (by simp [hr]) (by omega)]
      simp
  exact hloop d _ (by simp)

/-! ## Completion and step -/

/-- The core's step with a command pending. -/
theorem coreStep_busy (s : State) (h : s.busy = true) : coreStep s = mapNext markDone (complete s) := by
  simp [coreStep, h]

theorem coreStep_idle (s : State) (h : s.busy = false) : coreStep s = .next s := by
  simp [coreStep, h]

theorem complete_instr (s : State) (i : Instr) (h : decode s.pending = .ok i) : complete s = exec i s := by
  simp [complete, fetch, h]

theorem complete_illegal (s : State) (e : DecodeError) (h : decode s.pending = .error e) :
    complete s = runCommand (fun _ => some .unexpectedInput) (fun t => t) s := by
  simp [complete, fetch, h, runIllegal]

/-- What a step does, by the head of the schedule. -/
theorem step_cases (s : State) :
    (s.inputs = [] ∧ step s = coreStep s) ∨
      (∃ e rest, s.inputs = e :: rest ∧ step s = handleEvent e { s with inputs := rest }) := by
  unfold step runSchedule
  cases h : s.inputs with
  | nil => exact .inl ⟨rfl, rfl⟩
  | cons e rest => exact .inr ⟨e, rest, rfl, rfl⟩

/-- With the core next, the step is the core's, on the state with the rest of the schedule. -/
theorem step_coreNext (s : State) (rest : List Event) (h : s.coreNext rest) :
    step s = coreStep { s with inputs := rest } := by
  unfold step runSchedule
  rcases h with ⟨hi, rfl⟩ | hi
  · rw [hi]
    exact congrArg coreStep (by cases s; simp_all)
  · rw [hi]
    rfl

end Sys2Proof.Machine
end

