-- ==== Sys2Proof/Laws/PerInstr.lean ====
section
/-! SUPPORT. Facts about a command as syntax, one lemma per constructor: its word matches a row of the opcode map, and that
row reads the command back. -/

namespace Sys2Proof.Laws

/-- The word of a well-formed command matches some row of the opcode map, whose reader gives the command
(30_encoding.md R105). -/
def EncodeMatchesRow.Statement (i : Instr) : Prop :=
  i.wellFormed = true → ∃ r ∈ opcodeTable, encode i &&& r.mask = r.pattern ∧ r.read (encode i) = i

theorem EncodeMatchesRow.nop : EncodeMatchesRow.Statement .nop :=
  fun _ => ⟨_, List.mem_of_getElem? (i := 0) rfl, by decide, rfl⟩

theorem EncodeMatchesRow.clear : EncodeMatchesRow.Statement .clear :=
  fun _ => ⟨_, List.mem_of_getElem? (i := 1) rfl, by decide, rfl⟩

theorem EncodeMatchesRow.reset : EncodeMatchesRow.Statement .reset :=
  fun _ => ⟨_, List.mem_of_getElem? (i := 2) rfl, by decide, rfl⟩

/-- Every word of format K, field by field. -/
theorem formatK_fields : ∀ n : Fin 32, ∀ k : Fin 256,
    encode (.rsEncode n k) &&& 0xFF00E0FF = 0x10 ∧ fieldN (encode (.rsEncode n k)) = n ∧
      fieldK (encode (.rsEncode n k)) = k := by
  decide +kernel

theorem EncodeMatchesRow.rsEncode (n k : Nat) : EncodeMatchesRow.Statement (.rsEncode n k) := by
  intro h
  simp only [Instr.wellFormed, Bool.and_eq_true, decide_eq_true_eq] at h
  obtain ⟨h1, h2, h3⟩ := formatK_fields ⟨n, h.1⟩ ⟨k, h.2⟩
  exact ⟨_, List.mem_of_getElem? (i := 3) rfl, h1, congrArg₂ Instr.rsEncode h2 h3⟩

theorem EncodeMatchesRow.eccSymbol : EncodeMatchesRow.Statement .eccSymbol :=
  fun _ => ⟨_, List.mem_of_getElem? (i := 4) rfl, by decide, rfl⟩

theorem EncodeMatchesRow.matFrame : EncodeMatchesRow.Statement .matFrame :=
  fun _ => ⟨_, List.mem_of_getElem? (i := 5) rfl, by decide, rfl⟩

theorem EncodeMatchesRow.matPlace : EncodeMatchesRow.Statement .matPlace :=
  fun _ => ⟨_, List.mem_of_getElem? (i := 6) rfl, by decide, rfl⟩

/-- Every word of format M, for the two commands that use it. -/
theorem formatM_fields : ∀ m : Fin 8,
    (encode (.matEval m) &&& 0xFFFFF8FF = 0x22 ∧ fieldM (encode (.matEval m)) = m) ∧
      (encode (.matMask m) &&& 0xFFFFF8FF = 0x23 ∧ fieldM (encode (.matMask m)) = m) := by
  decide

theorem EncodeMatchesRow.matEval (m : Nat) : EncodeMatchesRow.Statement (.matEval m) := by
  intro h
  obtain ⟨⟨h1, h2⟩, -⟩ := formatM_fields ⟨m, by simpa [Instr.wellFormed] using h⟩
  exact ⟨_, List.mem_of_getElem? (i := 7) rfl, h1, congrArg Instr.matEval h2⟩

theorem EncodeMatchesRow.matMask (m : Nat) : EncodeMatchesRow.Statement (.matMask m) := by
  intro h
  obtain ⟨-, h1, h2⟩ := formatM_fields ⟨m, by simpa [Instr.wellFormed] using h⟩
  exact ⟨_, List.mem_of_getElem? (i := 8) rfl, h1, congrArg Instr.matMask h2⟩

theorem EncodeMatchesRow.matBuild : EncodeMatchesRow.Statement .matBuild :=
  fun _ => ⟨_, List.mem_of_getElem? (i := 9) rfl, by decide, rfl⟩

theorem EncodeMatchesRow.pngWrite : EncodeMatchesRow.Statement .pngWrite :=
  fun _ => ⟨_, List.mem_of_getElem? (i := 10) rfl, by decide, rfl⟩

end Sys2Proof.Laws
end

