-- ==== Sys2Proof/Tests/Slice0.lean ====
section
/-! SUPPORT. Tests: ill-formed terms refused, words written out from 30_encoding.md, single steps against the numbers the spec
prints, and for every statement with hypotheses a state and operands that meet them (`wit_…`). -/

set_option maxRecDepth 100000

namespace Sys2Proof.Machine.Tests

/-! ## WellFormed: one ill-formed term for each check -/

theorem wf_refuses_n : (Instr.rsEncode 32 1).wellFormed = false := by decide
theorem wf_refuses_k : (Instr.rsEncode 1 256).wellFormed = false := by decide
theorem wf_refuses_eval_m : (Instr.matEval 8).wellFormed = false := by decide
theorem wf_refuses_mask_m : (Instr.matMask 8).wellFormed = false := by decide
theorem wf_accepts_bounds :
    (Instr.rsEncode 31 255).wellFormed = true ∧ (Instr.rsEncode 0 0).wellFormed = true ∧
      (Instr.matEval 7).wellFormed = true ∧ (Instr.matMask 7).wellFormed = true := by decide

/-! ## Decode: a word of every row, bit by bit from 30_encoding.md R101 to R105 -/

theorem decode_nop : decode 0b00000000_00000000_00000000_00000000 = .ok .nop := by decide
theorem decode_clear : decode 0b00000000_00000000_00000000_00000001 = .ok .clear := by decide
theorem decode_reset : decode 0b00000000_00000000_00000000_00000010 = .ok .reset := by decide
/-- k = 16 in bits 23:16, n = 10 in bits 12:8 (41_rs_encoder.md R165, the example's word 0x00100A10). -/
theorem decode_rsEncode : decode 0b00000000_00010000_00001010_00010000 = .ok (.rsEncode 10 16) := by decide
theorem decode_eccSymbol : decode 0b00000000_00000000_00000000_00010001 = .ok .eccSymbol := by decide
theorem decode_matFrame : decode 0b00000000_00000000_00000000_00100000 = .ok .matFrame := by decide
theorem decode_matPlace : decode 0b00000000_00000000_00000000_00100001 = .ok .matPlace := by decide
/-- m = 6 in bits 10:8. -/
theorem decode_matEval : decode 0b00000000_00000000_00000110_00100010 = .ok (.matEval 6) := by decide
/-- m = 3 in bits 10:8. -/
theorem decode_matMask : decode 0b00000000_00000000_00000011_00100011 = .ok (.matMask 3) := by decide
theorem decode_matBuild : decode 0b00000000_00000000_00000000_00100100 = .ok .matBuild := by decide
theorem decode_pngWrite : decode 0b00000000_00000000_00000000_00110000 = .ok .pngWrite := by decide
/-- The four illegal words of 30_encoding.md R107. -/
theorem decode_illegal :
    decode 0x00000003 = .error .unassignedOp ∧ decode 0x00000100 = .error .reservedBits ∧
      decode 0x00000822 = .error .reservedBits ∧ decode 0x00012010 = .error .reservedBits := by decide
theorem decode_table_word : decodeTableWord 32 0x00FF1F10 = some (.rsEncode 31 255) := by decide

/-! ## Numbers the spec prints -/

/-- 41_rs_encoder.md R152. -/
theorem gmul_examples : gmul 0x53 0xCA = 0x8F ∧ gmul 2 0x80 = 0x1D ∧ gmul 2 0x40 = 0x80 := by decide
/-- 41_rs_encoder.md R154, G[7]. -/
theorem genPoly_seven : genPoly 7 = [0x01, 0x7F, 0x7A, 0x9A, 0xA4, 0x0B, 0x44, 0x75] := by decide +kernel
/-- 41_rs_encoder.md R156, the trace for n = 2. -/
theorem rsenc_trace : rsenc [0x12, 0x34, 0x56] 2 = [0x98, 0xE8] := by decide
/-- 42_matrix_builder.md R201. -/
theorem formatWord_examples :
    formatWord 1 0 = 0x5412 ∧ formatWord 1 2 = 0x5E7C ∧ formatWord 0 0 = 0x77C4 := by decide
/-- 42_matrix_builder.md R206: the first and the last entries of PlaceOrder(1), and its length 8·26. -/
theorem placeOrder_one :
    (placeOrder 1).take 5 = [(20, 20), (19, 20), (20, 19), (19, 19), (20, 18)] ∧
      (placeOrder 1).drop 204 = [(1, 11), (0, 11), (1, 12), (0, 12)] ∧ (placeOrder 1).length = 208 := by decide +kernel
/-- 43_png_writer.md R268, "Wikipedia". -/
theorem adler_example : adler32 [0x57, 0x69, 0x6B, 0x69, 0x70, 0x65, 0x64, 0x69, 0x61] = 0x11E60398 := by decide +kernel
/-- 43_png_writer.md R269, "123456789". -/
theorem crc_example : crc32 [0x31, 0x32, 0x33, 0x34, 0x35, 0x36, 0x37, 0x38, 0x39] = 0xCBF43926 := by decide +kernel

/-! ## Single steps -/

/-- What `f` reads of the next state. -/
def nextOf {α : Type} (o : Host.Outcome State Fault Refusal) (f : State → α) : Option α :=
  match o with
  | .next t => some (f t)
  | .fault _ => none
  | .refused _ => none

/-- A command word pending. -/
def pend (w : Word) (s : State) : State := { s with pending := w, busy := true }

/-- A failed state, as in the example of 40_system_commands.md R138. -/
def failed : State := { State.reset with result := 0xFFFFEC78, errcmd := 0x00000024, haz := true }

/-- 40_system_commands.md R137: from reset NOP leaves STATUS = 0x00000002. -/
theorem test_nop : nextOf (step (State.reset.withFetchWord 32 0)) statusWord = some 0x00000002 := by decide
/-- 40_system_commands.md R138. -/
theorem test_clear :
    nextOf (step (pend 1 failed)) (fun t => (t.result, t.errcmd, statusWord t)) = some (0, 0, 0x00000002) := by decide
/-- 40_system_commands.md R139. -/
theorem test_reset :
    nextOf (step (pend 2 { failed with level := 3, rsSrc := 9 })) (fun t => (t.level, t.rsSrc, statusWord t)) =
      some (1, 0, 0x00000002) := by decide
/-- 41_rs_encoder.md R156's trace through RS_ENCODE n=2 k=3, from DBUF[5] to EBUF[4094]. -/
theorem test_rsEncode :
    nextOf (step (pend 0x00030210
        { State.reset with mem := [(0x1005, 0x12), (0x1006, 0x34), (0x1007, 0x56)], rsSrc := 5, rsDst := 4094 }))
      (fun t => (t.ebuf 4094, t.ebuf 4095, t.result)) = some (0x98, 0xE8, 0) := by decide +kernel
/-- 41_rs_encoder.md R165: n = 31 fails; the code is -5000. -/
theorem test_rsEncode_fails :
    nextOf (step (pend 0x00011F10 State.reset)) (fun t => (t.result, t.errcmd, t.mem)) =
      some (0xFFFFEC78, 0x00011F10, []) := by decide
/-- 95_test_vectors.md 3.2: the EC codewords of "HELLO", Version 1, Medium. -/
theorem test_eccSymbol :
    nextOf (step (pend 0x11
        { State.reset with
          version := 1, mem := cellsFrom 0x1000
            [0x20, 0x2B, 0x0B, 0x78, 0xCC, 0x00, 0xEC, 0x11, 0xEC, 0x11, 0xEC, 0x11, 0xEC, 0x11, 0xEC, 0x11] }))
      (fun t => t.bytesAt 0x2000 10) = some [0x4D, 0xDD, 0x85, 0x13, 0xDB, 0x5F, 0x47, 0x73, 0x9A, 0x65] := by decide +kernel
/-- 42_matrix_builder.md R220: the example's MCFG and STATUS, with the writes that do not depend on MAT. -/
theorem test_matFrame :
    nextOf (step (pend 0x20 { State.reset with version := 1, level := 2 })) (fun t => (mcfgWord t, statusWord t)) =
      some (0x00150001, 0x00000012) := by decide +kernel
/-- 42_matrix_builder.md R220: VERSION 41 fails. -/
theorem test_matFrame_fails :
    nextOf (step (pend 0x20 { State.reset with version := 41 })) (fun t => (t.result, t.mstate)) =
      some (0xFFFFEC78, .empty) := by decide
/-- 42_matrix_builder.md R221: CWLEN 26 for Version 1; MLEVEL from LEVEL; the scores dropped. -/
theorem test_matPlace :
    nextOf (step (pend 0x21 { State.reset with mstate := .framed, mver := 1, msize := 21, level := 3, maskSel := 5 }))
      (fun t => (t.cwlen, t.mlevel, t.mstate, t.maskSel)) = some (26, 3, .placed, 0) := by decide +kernel
/-- 42_matrix_builder.md R221: with no frame, code -5001. -/
theorem test_matPlace_fails :
    nextOf (step (pend 0x21 State.reset)) (fun t => (t.result, t.errcmd)) = some (0xFFFFEC77, 0x21) := by decide
/-- 42_matrix_builder.md R222: PENV bit 6 set, the others kept. -/
theorem test_matEval :
    nextOf (step (pend 0x622 { State.reset with mstate := .placed, penv := 0x81 })) (fun t => (t.penv, t.mstate)) =
      some (0xC1, .placed) := by decide +kernel
/-- 42_matrix_builder.md R222: in phase MASKED it fails. -/
theorem test_matEval_fails :
    nextOf (step (pend 0x622 { State.reset with mstate := .masked })) (fun t => (t.result, t.penv)) =
      some (0xFFFFEC77, 0) := by decide
/-- 42_matrix_builder.md R223. -/
theorem test_matMask :
    nextOf (step (pend 0x523 { State.reset with mstate := .placed })) (fun t => (t.maskSel, t.mstate, t.penv)) =
      some (5, .masked, 0x20) := by decide +kernel
/-- 42_matrix_builder.md R223: it fails in phase FRAMED. -/
theorem test_matMask_fails :
    nextOf (step (pend 0x523 { State.reset with mstate := .framed })) (fun t => (t.result, t.mstate)) =
      some (0xFFFFEC77, .framed) := by decide
/-- 42_matrix_builder.md R224: VERSION 0 fails. -/
theorem test_matBuild_fails :
    nextOf (step (pend 0x24 State.reset)) (fun t => (t.result, t.errcmd)) = some (0xFFFFEC78, 0x24) := by decide
/-- 43_png_writer.md R274, R271: the signature and IHDR's width in a written stream of an 8 by 8 all-light image. -/
theorem test_pngWrite :
    nextOf (step (pend 0x30 { State.reset with mstate := .masked })) (fun t => (t.bytesAt 0x20000 20, t.olen, t.ovalid)) =
      some ([0x89, 0x50, 0x4E, 0x47, 0x0D, 0x0A, 0x1A, 0x0A, 0, 0, 0, 0x0D, 0x49, 0x48, 0x44, 0x52, 0, 0, 0, 8], 140, true) := by
  decide +kernel
/-- 43_png_writer.md R276: the colour (256, 0, 0) fails and nothing is written. -/
theorem test_pngWrite_fails :
    nextOf (step (pend 0x30 { State.reset with mstate := .masked, colorEn := true, colorR := 256 }))
      (fun t => (t.result, t.ovalid, t.mem)) = some (0xFFFFEC78, false, []) := by decide
/-- 40_system_commands.md R140: a discarded write sets HAZ; 20_memory.md R75: a bus error does not. -/
theorem test_busy_writes :
    (portAccess (.write32 0x18 7) (pend 0 State.reset)).2 = { pend 0 State.reset with haz := true } ∧
      portAccess (.write32 0x08 7) (pend 0 State.reset) = (.err, pend 0 State.reset) := by decide

/-- The STATUS of 43_png_writer.md R276's example, 0x0000FF72, and the MCFG of 42_matrix_builder.md R220's, 0x00150001, as the
host reads them. -/
theorem test_register_reads :
    (portAccess (.read32 0x08)
        { State.reset with done := true, mstate := .masked, ovalid := true, penv := 0xFF }).1 = .okWord 0x0000FF72 ∧
      (portAccess (.read32 0x34) { State.reset with mver := 1, msize := 21 }).1 = .okWord 0x00150001 := by decide
/-- 43_png_writer.md R261: the bytes of a dark and of a light pixel in RGB. -/
theorem test_colour_order :
    let c := ({ State.reset with colorEn := true, colorR := 0x12, colorG := 0x34, colorB := 0x56 } : State).colourMode
    pixelBytes c true = [0x12, 0x34, 0x56] ∧ pixelBytes c false = [0xFF, 0xFF, 0xFF] := by decide

/-! ## Witnesses: states and operands that meet the statements' hypotheses -/

/-- A state in the phase `p` with the MCFG of Version `v`. -/
def inPhase (p : Phase) (v : BitVec 6) : State :=
  { State.reset with mstate := p, mver := v, msize := BitVec.ofNat 8 (side v.toNat) }

/-- A command word pending, with the core to move and then a host access. -/
def scheduled (w : Word) (s : State) : State := { pend w s with inputs := [.core, .host (.read32 0x08)] }

/-- Both ways the core can be next; with these, the witnesses below meet the hypothesis `coreNext` too. -/
theorem wit_coreNext (w : Word) (s : State) (h : s.inputs = []) :
    (pend w s).coreNext [] ∧ (scheduled w s).coreNext [.host (.read32 0x08)] :=
  ⟨.inl ⟨h, rfl⟩, .inr rfl⟩

theorem wit_DecodeReadsEncodeBack :
    (Instr.rsEncode 31 255).wellFormed = true ∧ (Instr.matEval 7).wellFormed = true ∧ Instr.pngWrite.wellFormed = true := by
  decide
theorem wit_EncodeGivesDecodedWordBack :
    decode 0x00FF1F10 = .ok (.rsEncode 31 255) ∧ decode 0x00000722 = .ok (.matEval 7) := by decide
theorem wit_IllegalWordsFail :
    State.reset.busy = false ∧
      (∀ s ∈ [pend 0x00000003 State.reset, scheduled 0x00012010 failed],
        s.busy = true ∧ ∃ e ∈ [DecodeError.unassignedOp, .reservedBits], decode s.pending = .error e) ∧
      (pend 0x00000003 State.reset).result = 0 ∧ (scheduled 0x00012010 failed).result ≠ 0 ∧
      State.reset.inputs = [] ∧ failed.inputs = [] := by decide
theorem wit_CommandWriteIsAccepted : State.reset.busy = false ∧ failed.busy = false := by decide
theorem wit_StepRunsDecodedCommand :
    (pend 0x00000030 State.reset).busy = true ∧ decode (pend 0x00000030 State.reset).pending = .ok .pngWrite ∧
      (pend 0x00000030 State.reset).inputs = [] ∧
      ({ pend 0x00000030 State.reset with inputs := [.core] } : State).inputs = .core :: [] := by decide
theorem wit_OtherEventsTakeEffect :
    ({ State.reset with inputs := [.host (.read32 8)] } : State).inputs = .host (.read32 8) :: [] ∧
      ({ pend 1 failed with inputs := [.hardReset] } : State).inputs = .hardReset :: [] ∧
      State.reset.busy = false ∧ State.reset.inputs = [] ∧
      ({ State.reset with inputs := [.core] } : State).inputs = .core :: [] := by decide
theorem wit_CommandsAreSkippedAfterFailure :
    ∀ s ∈ [pend 0x00000000 failed, pend 0x00000024 failed, scheduled 0x00000101 failed],
      s.busy = true ∧ s.result ≠ 0 ∧ s.pending ≠ 0x00000001 ∧ s.pending ≠ 0x00000002 := by decide
theorem wit_FailureIsPrecise :
    (scheduled 0x21 State.reset).busy = true ∧ (scheduled 0x21 State.reset).coreNext [.host (.read32 0x08)] ∧
      (scheduled 0x21 State.reset).result = 0 ∧ ∃ t, step (scheduled 0x21 State.reset) = .next t ∧ t.result ≠ 0 :=
  ⟨rfl, .inr rfl, rfl, _, rfl, by decide⟩
theorem wit_PendingCommandCompletes :
    let s : State := { pend 0x24 State.reset with inputs := [.host (.read32 8), .host (.write32 0x18 1)] }
    s.busy = true ∧ Event.hardReset ∉ s.inputs := by decide
theorem wit_ClearEndsFailedState : failed.result ≠ 0 ∧ (pend 0x101 failed).pending = 0x00000101 := by decide
theorem wit_ResetRestoresRegisters :
    (pend 2 failed).busy = true ∧ (pend 2 failed).pending = 0x00000002 ∧ (scheduled 2 failed).busy = true ∧
      (scheduled 2 failed).pending = 0x00000002 ∧ failed.inputs = [] := by decide
theorem wit_GaloisFieldLaws : (0x01 : Byte) ≠ 0 ∧ (0xFF : Byte) ≠ 0 := by decide
theorem wit_PowersOfAlphaGiveProducts :
    0 < 255 ∧ 254 < 255 ∧ (0xFF : Byte) ≠ 0 ∧ logAlpha 0x01 = some 0 ∧ logAlpha 0x1D = some 8 := by decide +kernel
theorem wit_RsencIsTheRemainder : ([0x12] : List Byte) ≠ [] ∧ 1 ≤ 1 ∧ 1 ≤ 30 := by decide
theorem wit_RsencIsLinear : ([0x12, 0x34] : List Byte).length = ([0xFF, 0x01] : List Byte).length := rfl
/-- The largest block at the ends of both buffers, then one failure of each precondition. -/
theorem wit_RsEncodeStoresCodewords :
    (failed.result ≠ 0 ∧ State.reset.result = 0) ∧
      (225 + 30 ≤ 255 ∧ ({ State.reset with rsSrc := 3871 } : State).rsSrc.toNat + 225 ≤ 4096 ∧
        ({ State.reset with rsDst := 4066 } : State).rsDst.toNat + 30 ≤ 4096) ∧
      ¬(1 ≤ 31 ∧ 31 ≤ 30) ∧ ¬(1 ≤ 226 ∧ 226 + 30 ≤ 255) ∧
      ¬(({ State.reset with rsSrc := 4081 } : State).rsSrc.toNat + 16 ≤ 4096) ∧
      ¬(({ State.reset with rsDst := 4087 } : State).rsDst.toNat + 10 ≤ 4096) := by decide
/-- The Versions at both ends of the legal range, then just outside it; for EccSymbolStoresEveryBlock,
EccSymbolEqualsBlockByBlock, MatFrameWritesFrame and MatBuildEqualsSequence. -/
theorem wit_VersionOperands :
    (∀ v ∈ [(1 : BitVec 6), 40],
      ({ State.reset with version := v } : State).result = 0 ∧ 1 ≤ ({ State.reset with version := v } : State).version.toNat ∧
        ({ State.reset with version := v } : State).version.toNat ≤ 40) ∧
      ∀ v ∈ [(0 : BitVec 6), 41],
        ({ State.reset with version := v } : State).result = 0 ∧
          ¬(1 ≤ ({ State.reset with version := v } : State).version.toNat ∧
            ({ State.reset with version := v } : State).version.toNat ≤ 40) := by decide
/-- Operand ranges at their ends: GeneratorHasItsRoots and CodewordVanishesAtRoots (i < n), RsencOfSpecialBlocks (1 ≤ n),
PlaceOrderListsDataModules and PlaceOrderHasItsLength (1 ≤ v ≤ 40), RegistersShowTheirFields (m < 8), SelectionIsSmallestMinimum (m below a selected index 7), LatchedConfigShieldsMatrix. -/
theorem wit_OperandRanges :
    0 < 1 ∧ 29 < 30 ∧ 7 < 8 ∧ 1 ≤ 1 ∧ (1 ≤ 40 ∧ 40 ≤ 40) ∧ selectMask (fun m => 8 - m) = 7 ∧ 6 < 7 ∧
      ((∃ m, Instr.matEval 0 = .matEval m) ∨ (∃ m, Instr.matEval 0 = .matMask m) ∨ Instr.matEval 0 = .pngWrite) :=
  ⟨by decide, by decide, by decide, by decide, by decide, by decide, by decide, .inl ⟨0, rfl⟩⟩
theorem wit_WriteFormatSpellsWord :
    21 ≤ side 1 ∧ ((8, 0), 0) ∈ formatCells 21 ∧ ((8, 20), 14) ∈ formatCells 21 ∧ isFormat 21 20 20 = false := by decide
theorem wit_PlaceWritesDataAndFormat :
    1 ≤ 1 ∧ 40 ≤ 40 ∧ ((20, 20), 0) ∈ (placeOrder 1).zipIdx ∧ ((0, 12), 207) ∈ (placeOrder 1).zipIdx ∧
      ((8, 0), 0) ∈ formatCells (side 1) ∧ (0, 0) ∉ placeOrder 1 ∧ isFormat (side 1) 0 0 = false := by decide +kernel
theorem wit_PenaltyFitsRegister : 21 ≤ side 1 ∧ side 1 ≤ 177 ∧ 21 ≤ side 40 ∧ side 40 ≤ 177 := by decide
/-- Version 5 High has blocks of 15 and of 16 data codewords: the last column of the long blocks, and of the EC codewords. -/
theorem wit_MatPlaceWritesCodewords_positions :
    let b := blockSpec 5 2
    b.nb = 4 ∧ b.b1 = 2 ∧ b.k1 = 15 ∧ 14 < b.len 0 ∧ 15 < b.len 2 ∧ 15 < b.len 3 ∧ ¬15 < b.len 1 ∧ 17 < b.n := by decide
theorem wit_MatPlaceWritesCodewords :
    (∀ s ∈ [inPhase .framed 1, inPhase .masked 40],
      s.result = 0 ∧ s.mstate ≠ .empty ∧ 1 ≤ s.mver.toNat ∧ s.mver.toNat ≤ 40) ∧
      State.reset.result = 0 ∧ State.reset.mstate = .empty := by decide
theorem wit_MatEvalScoresCandidate :
    (inPhase .placed 1).result = 0 ∧ (inPhase .placed 1).mstate = .placed ∧ 0 < 8 ∧ 7 < 8 ∧
      (inPhase .masked 1).result = 0 ∧ (inPhase .masked 1).mstate ≠ .placed := by decide
theorem wit_MatMaskAppliesMask :
    (∀ s ∈ [inPhase .placed 1, inPhase .placed 40],
      s.result = 0 ∧ s.mstate = .placed ∧ 21 ≤ s.msize.toNat ∧ s.msize.toNat ≤ 177) ∧ 7 < 8 ∧
      (inPhase .framed 1).result = 0 ∧ (inPhase .framed 1).mstate ≠ .placed := by decide
theorem wit_PhaseOrderIsChecked :
    State.reset.result = 0 ∧ phaseAllowed .matPlace State.reset.mstate = false ∧
      phaseAllowed (.matMask 7) (inPhase .masked 1).mstate = false ∧ phaseAllowed .pngWrite (inPhase .masked 1).mstate = true ∧
      phaseAllowed .matBuild State.reset.mstate = true := by decide
theorem wit_PngStreamHasItsLength : (inPhase .masked 40).msize.toNat ≤ 177 := by decide
theorem wit_RawStreamShowsPixels :
    (∀ c ∈ [State.reset.colourMode, ({ State.reset with colorEn := true } : State).colourMode],
      c.dark.length = c.bpp ∧ c.light.length = c.bpp) ∧ 28 < 21 + 8 ∧ 2 < 3 ∧ 0 < State.reset.msize.toNat + 8 ∧
      State.reset.colorEn = false ∧ ({ State.reset with colorEn := true } : State).colorEn = true := by decide
theorem wit_ZlibStreamReadsBack : ([0x00] : List Byte) ≠ [] := by decide

/-- Every pixel of a mode has the same number of bytes. -/
theorem pixelBytes_length (c : ColourMode) (k : Nat) (hd : c.dark.length = k) (hl : c.light.length = k) (b : Bool) :
    (pixelBytes c b).length = k := by
  cases b <;> simp [pixelBytes, hd, hl]

theorem rawStream_length_of_pixel (m : Matrix) (n k : Nat) (c : ColourMode) (h : ∀ b, (pixelBytes c b).length = k) :
    (rawStream m n c).length = (n + 8) * ((n + 8) * k + 1) := by
  simp [rawStream, scanline, List.length_flatMap, h, imageWidth, Config.scale, Config.quiet]

theorem large_fits (m : Matrix) (c : ColourMode) (h : ∀ b, (pixelBytes c b).length = 1) :
    (pngStream m 177 c).length ≤ 131072 := by
  have hr := rawStream_length_of_pixel m 177 1 c h
  norm_num at hr
  simp [pngStream, chunk, zlibStream, storedCount, hr, Config.storedMax, List.range_succ, storedBlock, storedPiece,
    littleEndian16, bigEndian32, pngSignature, ihdrData, typeIhdr, typeIdat, typeIend]

theorem small_fits (m : Matrix) (c : ColourMode) (h : ∀ b, (pixelBytes c b).length = 3) :
    (pngStream m 21 c).length ≤ 131072 := by
  have hr := rawStream_length_of_pixel m 21 3 c h
  norm_num at hr
  simp [pngStream, chunk, zlibStream, storedCount, hr, Config.storedMax, List.range_succ, storedBlock, storedPiece,
    littleEndian16, bigEndian32, pngSignature, ihdrData, typeIhdr, typeIdat, typeIend]

theorem oversized_does_not_fit (m : Matrix) (c : ColourMode) (h : ∀ b, (pixelBytes c b).length = 3) :
    131072 < (pngStream m 255 c).length := by
  have hr := rawStream_length_of_pixel m 255 3 c h
  norm_num at hr
  have hz : 131072 < (zlibStream (rawStream m 255 c)).length := by
    simp [zlibStream, storedCount, hr, Config.storedMax, List.range_succ, storedBlock, storedPiece, littleEndian16,
      bigEndian32]
  simp only [pngStream, chunk, List.length_append]
  omega

/-- A masked state of Version 1 in RGB with the component values 0, 255 and 255. -/
def tinted : State := { inPhase .masked 1 with colorEn := true, colorG := 255, colorB := 255 }

/-- A state no run reaches, whose stream is longer than OBUF: MSIZE 255 in RGB. -/
def oversized : State := { State.reset with mstate := .masked, msize := 255, colorEn := true }

/-- The legal case at the largest symbol and in colour, then each failure; the last is a state no run reaches. -/
theorem wit_PngWriteStoresStream :
    ((inPhase .masked 40).result = 0 ∧ (inPhase .masked 40).mstate = .masked ∧ (inPhase .masked 40).colorEn = false ∧
      pngLength (inPhase .masked 40).latchedSize (inPhase .masked 40).colourMode.bpp ≤ 131072) ∧
      (tinted.result = 0 ∧ tinted.mstate = .masked ∧
        (tinted.colorEn = true → tinted.colorR.toNat ≤ 255 ∧ tinted.colorG.toNat ≤ 255 ∧ tinted.colorB.toNat ≤ 255)) ∧
      ((inPhase .placed 1).result = 0 ∧ (inPhase .placed 1).mstate ≠ .masked) ∧
      (({ tinted with colorR := 256 } : State).result = 0 ∧ ({ tinted with colorR := 256 } : State).colorEn = true ∧
        ¬({ tinted with colorR := 256 } : State).colorR.toNat ≤ 255) ∧
      (oversized.result = 0 ∧ oversized.mstate = .masked ∧ oversized.colorR.toNat ≤ 255 ∧
        131072 < pngLength oversized.latchedSize oversized.colourMode.bpp) := by decide
/-- The lengths of wit_PngWriteStoresStream's streams themselves. -/
theorem wit_PngWriteStoresStream_lengths :
    (inPhase .masked 40).pngBytes.length ≤ 131072 ∧ tinted.pngBytes.length ≤ 131072 ∧ 131072 < oversized.pngBytes.length := by
  refine ⟨?_, ?_, ?_⟩
  · have e : (inPhase .masked 40).latchedSize = 177 := rfl
    rw [State.pngBytes, e]
    exact large_fits _ _ (pixelBytes_length _ 1 rfl rfl)
  · have e : tinted.latchedSize = 21 := rfl
    rw [State.pngBytes, e]
    exact small_fits _ _ (pixelBytes_length _ 3 rfl rfl)
  · have e : oversized.latchedSize = 255 := rfl
    rw [State.pngBytes, e]
    exact oversized_does_not_fit _ _ (pixelBytes_length _ 3 rfl rfl)
theorem wit_WriteErrorCannotHappen : State.reset.result = 0 ∧ State.reset.configLegal ∧ tinted.configLegal := by
  refine ⟨rfl, ?_, ?_⟩ <;> (unfold State.configLegal; decide)
/-- For PngHeaderSpellsWidth and PngFileReadsBack. -/
theorem wit_PngHeaderSpellsWidth :
    tinted.result = 0 ∧ tinted.mstate = .masked ∧ tinted.configLegal ∧ tinted.coloursLegal = true := by
  unfold State.configLegal; decide
/-- The second state differs in everything PNG_WRITE does not read. -/
theorem wit_PngOutputDependsOnInputsAlone :
    let s := inPhase .masked 1
    let s' := { inPhase .masked 1 with version := 9, colorR := 7, maskSel := 3, rsDst := 5, mlevel := 2 }
    s.result = 0 ∧ s'.result = 0 ∧ s.mstate = .masked ∧ s'.mstate = .masked ∧ s.configLegal ∧ s.coloursLegal = true ∧
      s'.msize = s.msize ∧ s'.colorEn = s.colorEn ∧
      (s.colorEn = true → s'.colorR = s.colorR ∧ s'.colorG = s.colorG ∧ s'.colorB = s.colorB) ∧
      ∀ x y, x < s.msize.toNat → y < s.msize.toNat → (s'.moduleAt x y).dark = (s.moduleAt x y).dark := by
  refine ⟨rfl, rfl, rfl, rfl, ?_, rfl, rfl, rfl, by decide, fun _ _ _ _ => rfl⟩
  unfold State.configLegal; decide
theorem wit_CommandsTouchOnlyTheirOwn :
    regionOf 0x01FFF ∉ writtenRegions .eccSymbol ∧ regionOf 0x02000 ∉ writtenRegions .matBuild ∧
      regionOf 0x1FFFF ∉ writtenRegions .pngWrite ∧ Instr.clear ≠ .reset ∧ exec .clear failed = .next (clearFailure failed) :=
  ⟨by decide, by decide, by decide, by decide, rfl⟩
theorem wit_BusErrorChangesNothing :
    (portAccess (.read32 0x10) State.reset).1 = .err ∧ (portAccess (.write8 0x03000 1) State.reset).1 = .err ∧
      (portAccess (.write32 0x08 1) (pend 0 State.reset)).1 = .err := by decide
theorem wit_BusyWritesAreDiscarded :
    (pend 0 State.reset).busy = true ∧ 0x30 ∈ [0x04, 0x10, 0x18, 0x1C, 0x20, 0x24, 0x28, 0x2C, 0x30] ∧
      0x34 ∉ [0x04, 0x10, 0x18, 0x1C, 0x20, 0x24, 0x28, 0x2C, 0x30] ∧ (0x02FFF : BitVec 18).toNat < 0x03000 ∧
      Instr.nop ≠ .clear ∧ Instr.nop ≠ .reset ∧ failed.haz = true := by decide
theorem wit_RegisterWriteIsReadBack : State.reset.busy = false ∧ Reg.olen ≠ Reg.ctrl := by decide
theorem wit_BufferWriteIsReadBack :
    State.reset.busy = false ∧ 0x01000 ≤ (0x01000 : BitVec 18).toNat ∧ (0x02FFF : BitVec 18).toNat < 0x03000 := by decide
theorem wit_MatWindowShowsModules :
    State.reset.busy = false ∧ 176 ≤ 176 ∧ 176 < (0x100B1 : BitVec 18).toNat % 256 ∧
      176 < (0x1B100 : BitVec 18).toNat / 256 % 256 := by decide
theorem wit_UnusedOffsetsGetBusError :
    0x68 ≤ (0x68 : BitVec 18).toNat ∧ (0xFC : BitVec 18).toNat ≤ 0xFC := by decide

/-- A framed state of Version 1 with `w` pending. -/
def framed (w : Word) : State := pend w (frameWrites { State.reset with version := 1 })

theorem framed_moduleAt (w : Word) (x y : Nat) (hx : x < 177) (hy : y < 177) :
    (framed w).moduleAt x y = framedModule 1 x y := by
  have h1 : (framed w).moduleAt x y =
      (storeMatrix (matTabulate 177 (framedModule 1)) 177 { State.reset with version := 1 }).moduleAt x y :=
    moduleAt_congr _ _ _ _ (by simp [framed, pend, frameWrites, Config.matDim, State.versionOperand]) (by simp [framed, pend, frameWrites])
  rw [h1, moduleAt_storeMatrix _ _ _ _ _ (by omega), matGet_matTabulate]
  simp [Config.matDim, hx, hy]

theorem framed_memoryLegal (w : Word) : (framed w).memoryLegal := by
  have hm : (framed w).mem = Memory.overwrite (inSymbol 177) (matrixCells (matTabulate 177 (framedModule 1)) 177) [] := by
    simp [framed, pend, frameWrites, storeMatrix, Config.matDim, State.versionOperand]; rfl
  rw [State.memoryLegal, hm]
  refine ⟨overwrite_wf _ _ _ (matrixCells_wf _ _ (by decide)) List.Pairwise.nil (matrixCells_inside _ _ (by decide)), ?_⟩
  intro c hc
  have hc' : c ∈ matrixCells (matTabulate 177 (framedModule 1)) 177 := by
    rw [Memory.overwrite, mem_merge] at hc
    simpa using hc
  obtain ⟨x, y, hx, hy, ha⟩ := (inSymbol_iff 177 c.1 (by decide)).mp (matrixCells_inside _ _ (by decide) c hc')
  rw [matrixCells, List.mem_flatMap] at hc'
  obtain ⟨v, _, hv⟩ := hc'
  have h2 := cellsFrom_snd_mem _ _ _ hv
  rw [rowBytes, List.mem_map] at h2
  obtain ⟨u, _, hu⟩ := h2
  refine ⟨?_, fun _ => hu ▸ toByte_lt _⟩
  have hr : regionOf c.1 = .mat := by
    rw [ha]; unfold regionOf matAddr Config.matBase; split_ifs <;> first | rfl | omega
  rw [byteExists, hr, ha]
  have e1 : windowX (matAddr x y) = x := by unfold windowX matAddr Config.matBase; omega
  have e2 : windowY (matAddr x y) = y := by unfold windowY matAddr Config.matBase; omega
  simp [e1, e2, Config.matDim, hx, hy]

/-- A framed state with MAT_PLACE pending meets the hypotheses of StepKeepsStateLegal, StepKeepsMatrixLegal and
StepKeepsCodewordsHeld. -/
theorem wit_StepKeeps : (framed 0x21).legal ∧ (framed 0x21).matrixLegal ∧ (framed 0x21).codewordsHeld := by
  have hv : (framed 0x21).latchedVersion = 1 := by simp [framed, pend, frameWrites, State.latchedVersion]
  have hz : (framed 0x21).latchedSize = 21 := by
    simp [framed, pend, frameWrites, State.latchedSize, side, State.versionOperand]
  have hp : (framed 0x21).mstate = .framed := by simp [framed, pend, frameWrites]
  refine ⟨⟨?_, ?_, ?_, ?_, framed_memoryLegal _⟩, ?_, ?_⟩
  · simp [State.lifeLegal, framed, pend, frameWrites, State.reset]
  · simp [State.resultLegal, framed, pend, frameWrites, State.reset]
  · rw [State.configLegal, hp, hv, hz]; decide
  · rw [State.scoresLegal, hp]
    refine ⟨?_, by simp, ?_, ?_, ?_⟩
    · simp [framed, pend, frameWrites]
    · simp [framed, pend, frameWrites]
    · intro m hm _
      simp [framed, pend, frameWrites, State.penAt, hm]
    · simp [framed, pend, frameWrites, State.reset]
  · intro _
    rw [hv, hz]
    refine ⟨fun x y hx hy => ?_, fun _ c hc => ?_, fun h => ?_⟩
    · rw [framed_moduleAt _ _ _ hx hy]
      refine ⟨rfl, fun h => ?_, fun _ _ => rfl⟩
      exact if_neg h
    · rw [hz] at hc
      have : ∀ c ∈ formatCells 21, c.1.1 < 177 ∧ c.1.2 < 177 ∧ (framedModule 1 c.1.1 c.1.2).dark = false := by
        decide +kernel
      obtain ⟨h1, h2, h3⟩ := this c hc
      rw [framed_moduleAt _ _ _ h1 h2, h3]; simp
    · rw [hp] at h; exact absurd h (by decide)
  · rw [State.codewordsHeld, hp]
    exact ⟨fun h => absurd h (by decide), fun h => absurd h (by decide)⟩
end Sys2Proof.Machine.Tests
end

section
/-! SUPPORT. The address map and the register map as intervals of addresses. -/

namespace Sys2Proof.Machine

/-! ## Regions -/

theorem regionOf_eq_dbuf (a : Nat) : regionOf a = .dbuf ↔ 0x01000 ≤ a ∧ a ≤ 0x01FFF := by
  unfold regionOf; split_ifs <;> simp <;> omega

theorem regionOf_eq_ebuf (a : Nat) : regionOf a = .ebuf ↔ 0x02000 ≤ a ∧ a ≤ 0x02FFF := by
  unfold regionOf; split_ifs <;> simp <;> omega

theorem regionOf_eq_cwbuf (a : Nat) : regionOf a = .cwbuf ↔ 0x03000 ≤ a ∧ a ≤ 0x03FFF := by
  unfold regionOf; split_ifs <;> simp <;> omega

theorem regionOf_eq_mat (a : Nat) : regionOf a = .mat ↔ 0x10000 ≤ a ∧ a ≤ 0x1FFFF := by
  unfold regionOf; split_ifs <;> simp <;> omega

theorem regionOf_eq_obuf (a : Nat) : regionOf a = .obuf ↔ 0x20000 ≤ a ∧ a ≤ 0x3FFFF := by
  unfold regionOf; split_ifs <;> simp <;> omega

/-- A byte exists in the four buffers, and in the MAT window at the modules (20_memory.md R76, R78). -/
theorem byteExists_iff_region (a : Nat) :
    byteExists a = true ↔ regionOf a ∈ [Region.dbuf, .ebuf, .cwbuf, .obuf] ∨
      (regionOf a = .mat ∧ windowX a < Config.matDim ∧ windowY a < Config.matDim) := by
  unfold byteExists
  cases regionOf a <;> simp

/-- `byteExists` as intervals of addresses. -/
theorem byteExists_iff (a : Nat) :
    byteExists a = true ↔ (0x01000 ≤ a ∧ a ≤ 0x03FFF) ∨
      (0x10000 ≤ a ∧ a ≤ 0x1FFFF ∧ a % 256 ≤ 176 ∧ a / 256 % 256 ≤ 176) ∨ (0x20000 ≤ a ∧ a ≤ 0x3FFFF) := by
  rw [byteExists_iff_region]
  simp only [List.mem_cons, List.not_mem_nil, or_false, regionOf_eq_dbuf, regionOf_eq_ebuf, regionOf_eq_cwbuf,
    regionOf_eq_obuf, regionOf_eq_mat, windowX, windowY, Config.matDim]
  omega

/-- The host writes DBUF and EBUF alone (20_memory.md R74). -/
theorem byteWritable_iff_region (a : Nat) : byteWritable a = true ↔ regionOf a = .dbuf ∨ regionOf a = .ebuf := by
  unfold byteWritable
  cases regionOf a <;> simp

/-- `byteWritable` as an interval of addresses. -/
theorem byteWritable_iff (a : Nat) : byteWritable a = true ↔ 0x01000 ≤ a ∧ a ≤ 0x02FFF := by
  rw [byteWritable_iff_region, regionOf_eq_dbuf, regionOf_eq_ebuf]
  omega

/-- The address of a module is in the MAT window, and the window gives its coordinates back (20_memory.md R78). -/
theorem matAddr_window (x y : Nat) (hx : x < 256) (hy : y < 256) :
    regionOf (matAddr x y) = .mat ∧ windowX (matAddr x y) = x ∧ windowY (matAddr x y) = y := by
  rw [regionOf_eq_mat]
  unfold windowX windowY matAddr Config.matBase
  omega

/-- A module of a symbol of side `n`, at most MAT_DIM, is a module of the MAT window. -/
theorem inSymbol_exists (n a : Nat) (hn : n ≤ Config.matDim) (h : inSymbol n a = true) :
    regionOf a = .mat ∧ byteExists a = true := by
  have hd : Config.matDim = 177 := rfl
  obtain ⟨x, y, hx, hy, rfl⟩ := (inSymbol_iff n a (by omega)).mp h
  obtain ⟨hr, ex, ey⟩ := matAddr_window x y (by omega) (by omega)
  exact ⟨hr, (byteExists_iff_region _).mpr (.inr ⟨hr, by omega, by omega⟩)⟩

/-! ## Registers -/

/-- No register stands beyond OLEN (10_state.md R47). -/
theorem regAt_beyond (a : Nat) (h : 0x64 < a) : regAt a = none := by
  unfold regAt
  split
  case h_27 => rfl
  all_goals omega

/-- CMD alone has no readable value (10_state.md R34). -/
theorem readReg_eq_none (s : State) (r : Reg) : readReg s r = none ↔ r = .cmd := by
  cases r <;> simp [readReg]

/-- The host may not write exactly the RO registers (10_state.md R24). -/
theorem writeReg_eq_none (v : Word) (s : State) (r : Reg) : writeReg v s r = none ↔ regAccess r = .ro := by
  cases r <;> simp [writeReg, regAccess]

/-- The readable registers stand at the aligned offsets up to 0x64, but for CMD's (10_state.md R24). -/
theorem readable_offsets : ∀ a < 0x65,
    (regAt a = none ∨ regAt a = some .cmd) ↔ ¬(a % 4 = 0 ∧ a ≠ 0x10) := by
  decide

/-- The offsets at which the host may write: the eight RW registers and CMD (10_state.md R24). -/
theorem writable_offsets : ∀ a < 0x65,
    (∀ r ∈ regAt a, regAccess r = .ro) ↔ a ∉ [0x04, 0x10, 0x18, 0x1C, 0x20, 0x24, 0x28, 0x2C, 0x30] := by
  decide

/-! ## Accesses -/

/-- A 32-bit read gets ERR exactly where no register stands, and at CMD. -/
theorem hostRead32_eq_err (a : Nat) (s : State) : hostRead32 a s = .err ↔ regAt a = none ∨ regAt a = some .cmd := by
  unfold hostRead32
  cases regAt a with
  | none => simp
  | some r =>
    have hcmd := readReg_eq_none s r
    cases hr : readReg s r <;> simp_all

/-- A 32-bit read where a readable register stands. -/
theorem hostRead32_of_readReg (a : Nat) (s : State) (r : Reg) (v : Word) (ha : regAt a = some r)
    (hv : readReg s r = some v) : hostRead32 a s = .okWord v := by
  simp [hostRead32, ha, hv]

/-- A 32-bit write gets ERR exactly where no register stands that the host may write. -/
theorem hostWrite32_eq_err (a : Nat) (v : Word) (s : State) :
    (hostWrite32 a v s).1 = .err ↔ ∀ r ∈ regAt a, regAccess r = .ro := by
  unfold hostWrite32
  cases regAt a with
  | none => simp
  | some r =>
    have hro := writeReg_eq_none v s r
    cases hw : writeReg v s r <;> cases s.busy <;> simp_all

/-- A 32-bit write while BUSY is 0, where the host may write. -/
theorem hostWrite32_of_writeReg (a : Nat) (v : Word) (s t : State) (r : Reg) (hb : s.busy = false)
    (ha : regAt a = some r) (ht : writeReg v s r = some t) : hostWrite32 a v s = (.ok, t) := by
  simp [hostWrite32, ha, ht, hb]

/-- An 8-bit read gets ERR exactly where no byte exists. -/
theorem hostRead8_eq_err (a : Nat) (s : State) : (hostRead8 a s).1 = .err ↔ byteExists a = false := by
  unfold hostRead8
  cases byteExists a <;> cases s.busy <;> simp

/-- An 8-bit write gets ERR exactly outside DBUF and EBUF. -/
theorem hostWrite8_eq_err (a : Nat) (v : Byte) (s : State) : (hostWrite8 a v s).1 = .err ↔ byteWritable a = false := by
  unfold hostWrite8
  cases byteWritable a <;> cases s.busy <;> simp

/-! ## Bus errors -/

/-- Settles O60, from the four lemmas that say where each kind of access gets ERR, and the maps as intervals. -/
theorem busErrorsComeWhere : Obligations.BusErrorsComeWhere := by
  refine ⟨fun s a => ?_, fun s a v => ?_, fun s a => ?_, fun s a v => ?_⟩
  · show hostRead32 a.toNat s = .err ↔ _
    rw [hostRead32_eq_err]
    by_cases h : a.toNat < 0x65
    · rw [readable_offsets _ h]
      omega
    · simp only [regAt_beyond a.toNat (by omega), true_or, true_iff]
      omega
  · show (hostWrite32 a.toNat v s).1 = .err ↔ _
    rw [hostWrite32_eq_err]
    by_cases h : a.toNat < 0x65
    · exact writable_offsets _ h
    · simp [regAt_beyond a.toNat (by omega)]
      omega
  · show (hostRead8 a.toNat s).1 = .err ↔ _
    rw [hostRead8_eq_err, Bool.eq_false_iff, ne_eq, byteExists_iff]
    omega
  · show (hostWrite8 a.toNat v s).1 = .err ↔ _
    rw [hostWrite8_eq_err, Bool.eq_false_iff, ne_eq, byteWritable_iff]

/-- Settles O51: beyond OLEN no register stands, so neither access finds one. -/
theorem unusedOffsetsGetBusError : Obligations.UnusedOffsetsGetBusError := by
  intro s a v hlow _
  have hnone : regAt a.toNat = none := regAt_beyond _ (by omega)
  exact ⟨by simp [portAccess, hostRead32, hnone], by simp [portAccess, hostWrite32, hnone]⟩

/-! ## The MAT window -/

/-- The port's byte of a module: dark in bit 0, func in bit 1, the other bits 0 (20_memory.md R78). -/
theorem toByte_bits (q : QrModule) :
    q.toByte.getLsbD 0 = q.dark ∧ q.toByte.getLsbD 1 = q.func ∧ q.toByte.extractLsb' 2 6 = 0 := by
  obtain ⟨d, f⟩ := q
  cases d <;> cases f <;> decide

/-- At a module's address the port shows the module. -/
theorem portByte_matAddr (s : State) (x y : Nat) (hx : x < 256) (hy : y < 256) :
    portByte s (matAddr x y) = (s.moduleAt x y).toByte := by
  obtain ⟨hr, -⟩ := matAddr_window x y hx hy
  rw [portByte, if_pos hr, State.moduleAt]

/-- Settles O50: inside the array the port shows the module's byte; beyond it no byte exists. -/
theorem matWindowShowsModules : Obligations.MatWindowShowsModules := by
  refine ⟨fun s x y hb hx hy => ?_, fun s a h1 h2 hout => ?_⟩
  · have haddr : (BitVec.ofNat 18 (0x10000 + 256 * y + x)).toNat = matAddr x y := by
      rw [BitVec.toNat_ofNat, Nat.mod_eq_of_lt (by omega)]; rfl
    obtain ⟨hr, ex, ey⟩ := matAddr_window x y (by omega) (by omega)
    have hd : Config.matDim = 177 := rfl
    have hex : byteExists (matAddr x y) = true :=
      (byteExists_iff_region _).mpr (.inr ⟨hr, by omega, by omega⟩)
    refine ⟨(s.moduleAt x y).toByte, ?_, toByte_bits _⟩
    rw [portAccess, haddr, hostRead8, if_pos hex, if_neg (by simp [hb]), portByte_matAddr s x y (by omega) (by omega)]
  · have hex : ¬ byteExists a.toNat = true := by
      rw [byteExists_iff]; omega
    rw [portAccess, hostRead8, if_neg hex]

end Sys2Proof.Machine
end

section
/-! SUPPORT. What the registers show, and what a host write to one of them changes. -/

namespace Sys2Proof.Machine

/-! ## Register fields -/

/-- The fields of STATUS at their bits (10_state.md R32). -/
theorem statusWord_fields (s : State) :
    (statusWord s).getLsbD 0 = s.busy ∧ (statusWord s).getLsbD 1 = s.done ∧ (statusWord s).getLsbD 2 = s.err ∧
      (statusWord s).getLsbD 3 = s.haz ∧ (statusWord s).extractLsb' 4 2 = s.mstate.code ∧
      (statusWord s).getLsbD 6 = s.ovalid ∧ (statusWord s).getLsbD 7 = false ∧
      (statusWord s).extractLsb' 8 8 = s.penv ∧ (statusWord s).extractLsb' 16 16 = 0 := by
  unfold statusWord
  refine ⟨?busy, ?done, ?err, ?haz, ?mstate, ?ovalid, ?zero, ?penv, ?above⟩
  case mstate | penv | above =>
    ext i hi
    rw [BitVec.getElem_extractLsb']
    repeat rw [BitVec.getLsbD_append]
    interval_cases i <;> simp
  all_goals
    repeat rw [BitVec.getLsbD_append]
    simp

/-- The fields of MCFG at their bits (10_state.md R41). -/
theorem mcfgWord_fields (s : State) :
    (mcfgWord s).extractLsb' 0 6 = s.mver ∧ (mcfgWord s).extractLsb' 6 2 = 0 ∧
      (mcfgWord s).extractLsb' 8 2 = s.mlevel ∧ (mcfgWord s).extractLsb' 10 6 = 0 ∧
      (mcfgWord s).extractLsb' 16 8 = s.msize ∧ (mcfgWord s).extractLsb' 24 8 = 0 := by
  unfold mcfgWord
  refine ⟨?_, ?_, ?_, ?_, ?_, ?_⟩
  all_goals
    ext i hi
    rw [BitVec.getElem_extractLsb']
    repeat rw [BitVec.getLsbD_append]
    interval_cases i <;> simp

/-- The host reads a readable register, and the read changes nothing (20_memory.md R71). -/
theorem portAccess_read32 (a : BitVec 18) (s : State) (r : Reg) (v : Word) (ha : regAt a.toNat = some r)
    (hv : readReg s r = some v) : portAccess (.read32 a) s = (.okWord v, s) :=
  congrArg (·, s) (hostRead32_of_readReg _ s r v ha hv)

/-- The host writes a register while BUSY is 0 (20_memory.md R72). -/
theorem portAccess_write32 (a : BitVec 18) (v : Word) (s t : State) (r : Reg) (hb : s.busy = false)
    (ha : regAt a.toNat = some r) (ht : writeReg v s r = some t) : portAccess (.write32 a v) s = (.ok, t) :=
  hostWrite32_of_writeReg _ v s t r hb ha ht

/-- The scores stand in eight consecutive words (10_state.md R44). -/
theorem regAt_pen (m : Fin 8) : regAt (0x40 + 4 * m.val) = some (.pen m) := by
  fin_cases m <;> rfl

theorem ofBool_setWidth (b : Bool) : (BitVec.ofBool b).setWidth 32 = BitVec.ofNat 32 b.toNat := by
  cases b <;> rfl

/-- Settles O59: STATUS and MCFG by their fields, every other register by its value. -/
theorem registersShowTheirFields : Obligations.RegistersShowTheirFields := by
  refine ⟨fun s => ⟨statusWord s, rfl, ?_⟩, fun s => ⟨mcfgWord s, rfl, mcfgWord_fields s⟩, fun s p hp => ?_,
    fun s m hm => ?_⟩
  · obtain ⟨hbusy, hdone, herr, hhaz, hmstate, hrest⟩ := statusWord_fields s
    refine ⟨hbusy, hdone, ?_, hhaz, ?_, hrest⟩
    · rw [herr, State.err, bne_iff_ne]
    · rw [hmstate]
      cases s.mstate <;> rfl
  · have hval : ∃ r v, regAt (BitVec.ofNat 18 p.1).toNat = some r ∧ readReg s r = some v ∧
        v = BitVec.ofNat 32 p.2 := by
      simp only [List.mem_cons, List.not_mem_nil, or_false] at hp
      rcases hp with rfl | rfl | rfl | rfl | rfl | rfl | rfl | rfl | rfl | rfl | rfl | rfl | rfl | rfl | rfl
      all_goals exact ⟨_, _, rfl, rfl, by simp [Config.idValue, ofBool_setWidth]⟩
    obtain ⟨r, v, ha, hv, rfl⟩ := hval
    exact portAccess_read32 _ s r _ ha hv
  · refine portAccess_read32 _ s (.pen ⟨m, hm⟩) _ ?_ rfl
    rw [BitVec.toNat_ofNat, Nat.mod_eq_of_lt (by omega)]
    exact regAt_pen ⟨m, hm⟩

/-- Settles O52, by reading the reset state. -/
theorem resetValuesOfRegisters : Obligations.ResetValuesOfRegisters := by
  unfold Obligations.ResetValuesOfRegisters
  decide

/-! ## Writing a register -/

/-- A write to an RW register changes no other register (10_state.md R24). -/
theorem readReg_writeReg_other (v : Word) (s t : State) (r r' : Reg) (hrw : regAccess r = .rw) (hne : r' ≠ r)
    (h : writeReg v s r = some t) : readReg t r' = readReg s r' := by
  cases r <;> simp only [regAccess, reduceCtorEq] at hrw <;> obtain rfl := Option.some.inj h
  all_goals
    cases r' <;> try rfl
    exact absurd rfl hne

/-- A write to an RW register leaves memory and BUSY alone (10_state.md R24). -/
theorem writeReg_frame (v : Word) (s t : State) (r : Reg) (hrw : regAccess r = .rw) (h : writeReg v s r = some t) :
    t.mem = s.mem ∧ t.busy = s.busy := by
  cases r <;> simp only [regAccess, reduceCtorEq] at hrw <;> obtain rfl := Option.some.inj h <;> exact ⟨rfl, rfl⟩

/-- The eight RW registers, each with its offset and its field's width (10_state.md R24). -/
def rwRegisters : List (Reg × Nat × Nat) :=
  [(.ctrl, 0x04, 1), (.version, 0x18, 6), (.level, 0x1C, 2), (.rsSrc, 0x20, 12), (.rsDst, 0x24, 12),
    (.colorR, 0x28, 32), (.colorG, 0x2C, 32), (.colorB, 0x30, 32)]

theorem rwRegisters_map : ∀ p ∈ rwRegisters,
    regAt (BitVec.ofNat 18 p.2.1).toNat = some p.1 ∧ regAccess p.1 = .rw := by
  decide

/-- Bit 0 of a word as a register value. -/
theorem ofBool_readBack (v : Word) : (BitVec.ofBool (v.getLsbD 0)).setWidth 32 = BitVec.ofNat 32 (v.toNat % 2 ^ 1) := by
  have hbit : v.toNat % 2 ^ 1 = (v.getLsbD 0).toNat := by
    rw [BitVec.getLsbD, Nat.testBit_zero]
    rcases Nat.mod_two_eq_zero_or_one v.toNat with h | h <;> simp [h]
  rw [hbit, ofBool_setWidth]

/-- A field that keeps the low `n` bits of a word reads back modulo 2^n (10_state.md R24). -/
theorem setWidth_readBack (v : Word) (n : Nat) :
    (v.setWidth n).setWidth 32 = BitVec.ofNat 32 (v.toNat % 2 ^ n) := by
  rw [← BitVec.ofNat_toNat, BitVec.toNat_setWidth]

/-- A whole word reads back. -/
theorem word_readBack (v : Word) : v = BitVec.ofNat 32 (v.toNat % 2 ^ 32) := by
  simpa using setWidth_readBack v 32

/-- An RW register takes the low bits of the word that fit its field (10_state.md R24). -/
theorem writeReg_readBack (v : Word) (s : State) (p : Reg × Nat × Nat) (hp : p ∈ rwRegisters) :
    ∃ t, writeReg v s p.1 = some t ∧ readReg t p.1 = some (BitVec.ofNat 32 (v.toNat % 2 ^ p.2.2)) := by
  simp only [rwRegisters, List.mem_cons, List.not_mem_nil, or_false] at hp
  rcases hp with rfl | rfl | rfl | rfl | rfl | rfl | rfl | rfl
  · exact ⟨_, rfl, congrArg some (ofBool_readBack v)⟩
  · exact ⟨_, rfl, congrArg some (setWidth_readBack v 6)⟩
  · exact ⟨_, rfl, congrArg some (setWidth_readBack v 2)⟩
  · exact ⟨_, rfl, congrArg some (setWidth_readBack v 12)⟩
  · exact ⟨_, rfl, congrArg some (setWidth_readBack v 12)⟩
  all_goals exact ⟨_, rfl, congrArg some (word_readBack v)⟩

/-- Settles O48: the register takes the bits that fit, and the write leaves the rest alone. -/
theorem registerWriteIsReadBack : Obligations.RegisterWriteIsReadBack := by
  intro s v hb p hp
  obtain ⟨ha, hrw⟩ := rwRegisters_map p hp
  obtain ⟨t, ht, hread⟩ := writeReg_readBack v s p hp
  obtain ⟨hmem, hbusy⟩ := writeReg_frame v s t p.1 hrw ht
  exact ⟨t, portAccess_write32 _ v s t p.1 hb ha ht, portAccess_read32 _ t p.1 _ ha hread,
    fun r hr => readReg_writeReg_other v s t p.1 r hrw hr ht, hmem, hbusy.trans hb⟩

end Sys2Proof.Machine
end

section
/-! SUPPORT. What a passed and a failed check say, how many bytes each command writes, and that they fit the memory it
writes. -/

namespace Sys2Proof.Machine

/-! ## Checks -/

/-- A check passes exactly when every precondition holds (40_system_commands.md R133). -/
theorem firstFailure_eq_none (l : List (Bool × ResultKind)) : firstFailure l = none ↔ ∀ p ∈ l, p.1 = true := by
  induction l with
  | nil => simp
  | cons p l ih => cases hp : p.1 <;> simp [firstFailure, hp, ih]

/-- A check fails with the kind of one of its preconditions (40_system_commands.md R133). -/
theorem firstFailure_eq_some (l : List (Bool × ResultKind)) (k : ResultKind) (h : firstFailure l = some k) :
    k ∈ l.map Prod.snd := by
  induction l with
  | nil => simp at h
  | cons p l ih =>
    rw [firstFailure_cons] at h
    split at h
    · exact List.mem_cons_of_mem _ (ih h)
    · exact List.mem_cons.mpr (.inl (Option.some.inj h).symm)

/-! ## Lengths -/

/-- RSENC gives n bytes, n = 0 too (41_rs_encoder.md R155). -/
theorem rsenc_length_eq (d : List Byte) (n : Nat) : (rsenc d n).length = n := by
  rcases Nat.eq_zero_or_pos n with rfl | hn
  · have hnil : ∀ l : List Byte, l.foldl (rsShift (genPoly 0).tail) [] = [] := by
      intro l
      induction l with
      | nil => rfl
      | cons x l ih => exact ih
    exact congrArg List.length (hnil d)
  · exact rsenc_length d n hn

/-- The EC codewords of a symbol are nb·n (41_rs_encoder.md R166). -/
theorem symbolEcc_length (b : BlockSpec) (s : State) : (symbolEcc b s).length = b.ecLen := by
  simp [symbolEcc, List.length_flatMap, rsenc_length_eq, BlockSpec.ecLen]

/-- An upper bound: at most k1 + 1 columns of data codewords and n columns of EC codewords, each of at most nb
(42_matrix_builder.md R205). -/
theorem interleave_length_le (b : BlockSpec) (s : State) :
    (interleave b s).length ≤ (b.k1 + 1) * b.nb + b.n * b.nb := by
  have hrow : ∀ i, ((List.range b.nb).flatMap fun j =>
      if i < b.len j then [s.dbuf (b.start j + i)] else []).length ≤ b.nb := by
    intro i
    rw [List.length_flatMap]
    calc _ ≤ ((List.range b.nb).map fun _ => 1).sum :=
          List.sum_le_sum fun j _ => by split <;> simp
      _ = b.nb := by simp
  have hcols : ∀ k, ((List.range k).flatMap fun i => (List.range b.nb).flatMap fun j =>
      if i < b.len j then [s.dbuf (b.start j + i)] else []).length ≤ k * b.nb := by
    intro k
    rw [List.length_flatMap]
    calc _ ≤ ((List.range k).map fun _ => b.nb).sum := List.sum_le_sum fun i _ => hrow i
      _ = k * b.nb := by simp
  have hec : ((List.range b.n).flatMap fun i =>
      (List.range b.nb).map fun j => s.ebuf (j * b.n + i)).length = b.n * b.nb := by
    simp [List.length_flatMap]
  unfold interleave
  rw [List.length_append, hec]
  refine Nat.add_le_add_right ((hcols _).trans (Nat.mul_le_mul_right _ ?_)) _
  split <;> omega

/-- The largest entries of BLKTAB (45_rom_tables.md R311). -/
theorem blockTable_bounds : ∀ row ∈ blockTable, ∀ e ∈ row, e.ec ≤ 2430 ∧ e.short + e.long ≤ 81 := by
  decide

/-- Beyond Version 40 the table gives zeros (log 10). -/
theorem blockEntry_beyond (v l : Nat) (h : 40 < v) : blockEntry v l = ⟨0, 0, 0⟩ := by
  have hrow : blockTable[v - 1]? = none := List.getElem?_eq_none (show 40 ≤ v - 1 by omega)
  simp [blockEntry, show v ≠ 0 by omega, List.getD_eq_getElem?_getD, hrow]

theorem blockEntry_bounds (v l : Nat) :
    (blockEntry v l).ec ≤ 2430 ∧ (blockEntry v l).short + (blockEntry v l).long ≤ 81 := by
  unfold blockEntry
  simp only [List.getD_eq_getElem?_getD]
  split
  · simp
  · cases hrow : blockTable[v - 1]? with
    | none => simp
    | some row =>
      cases hentry : row[l]? with
      | none => simp [hentry]
      | some e => simpa [hentry] using blockTable_bounds row (List.mem_of_getElem? hrow) e (List.mem_of_getElem? hentry)

/-- T(40), the largest number of codewords (45_rom_tables.md R310). -/
theorem totalCodewords_le : ∀ v ≤ 40, totalCodewords v ≤ 3706 := by
  decide

/-- The EC codewords of a symbol fit EBUF (41_rs_encoder.md R166). -/
theorem blockSpec_ecLen_le (v l : Nat) : (blockSpec v l).ecLen ≤ 4096 := by
  have hle : (blockSpec v l).ecLen ≤ (blockEntry v l).ec := Nat.mul_div_le _ _
  have := (blockEntry_bounds v l).1
  omega

/-- The codewords of a symbol fit CWBUF (42_matrix_builder.md R205). -/
theorem blockSpec_columns_le (v l : Nat) :
    ((blockSpec v l).k1 + 1) * (blockSpec v l).nb + (blockSpec v l).n * (blockSpec v l).nb ≤ 4096 := by
  obtain ⟨hec, hnb⟩ := blockEntry_bounds v l
  have hdata : (blockSpec v l).k1 * (blockSpec v l).nb ≤ totalCodewords v - (blockEntry v l).ec :=
    Nat.div_mul_le_self _ _
  have hcodes : (blockSpec v l).n * (blockSpec v l).nb ≤ (blockEntry v l).ec := Nat.div_mul_le_self _ _
  have hblocks : (blockSpec v l).nb = (blockEntry v l).short + (blockEntry v l).long := rfl
  by_cases hv : v ≤ 40
  · have := totalCodewords_le v hv
    rw [Nat.add_mul]
    omega
  · have hzero : (blockSpec v l).nb = 0 := by simp [hblocks, blockEntry_beyond v l (by omega)]
    simp [hzero]

/-! ## The length of a PNG stream -/

@[simp] theorem bigEndian32_length (n : Nat) : (bigEndian32 n).length = 4 := rfl

@[simp] theorem littleEndian16_length (n : Nat) : (littleEndian16 n).length = 2 := rfl

theorem chunk_length (type data : List Byte) : (chunk type data).length = 8 + type.length + data.length := by
  simp only [chunk, List.length_append, bigEndian32_length]
  omega

/-- A dark and a light pixel have the mode's number of bytes (43_png_writer.md R261). -/
theorem pixelBytes_colourMode (s : State) (isDark : Bool) :
    (pixelBytes s.colourMode isDark).length = s.colourMode.bpp := by
  unfold State.colourMode
  cases s.colorEn <;> cases isDark <;> rfl

/-- A scanline is its filter byte and W pixels (43_png_writer.md R264). -/
theorem scanline_length (m : Matrix) (n : Nat) (c : ColourMode) (h : ∀ b, (pixelBytes c b).length = c.bpp) (py : Nat) :
    (scanline m n c py).length = 1 + imageWidth n * c.bpp := by
  simp [scanline, List.length_flatMap, h, Nat.add_comm]

/-- R of 43_png_writer.md R265 is the length of the raw stream. -/
theorem rawStream_length (m : Matrix) (n : Nat) (c : ColourMode) (h : ∀ b, (pixelBytes c b).length = c.bpp) :
    (rawStream m n c).length = rawLength n c.bpp := by
  simp [rawStream, List.length_flatMap, scanline_length m n c h, rawLength]

theorem storedBlock_length (raw : List Byte) (count i : Nat) :
    (storedBlock raw count i).length = 5 + (storedPiece raw i).length := by
  simp only [storedBlock, List.length_append, List.length_cons, littleEndian16_length]

/-- The pieces of the raw stream up to piece `k` are its first 65535·k bytes (43_png_writer.md R267). -/
theorem storedPieces_flatten (raw : List Byte) (k : Nat) :
    (List.range k).flatMap (storedPiece raw) = raw.take (Config.storedMax * k) := by
  induction k with
  | zero => simp
  | succ k ih =>
    rw [List.range_succ, List.flatMap_append, ih, List.flatMap_singleton, storedPiece, Nat.mul_succ, List.take_add]

/-- The stored blocks reach the end of the raw stream (43_png_writer.md R266). -/
theorem storedCount_covers (n : Nat) : n ≤ Config.storedMax * storedCount n := by
  unfold storedCount Config.storedMax
  omega

/-- The first `k` stored blocks have 5 bytes each beside their pieces (43_png_writer.md R267). -/
theorem storedBlocks_length (raw : List Byte) (count k : Nat) :
    ((List.range k).flatMap (storedBlock raw count)).length =
      5 * k + ((List.range k).flatMap (storedPiece raw)).length := by
  simp [List.length_flatMap, storedBlock_length, List.sum_map_add, Nat.mul_comm]

/-- The zlib stream adds 5 bytes for each stored block, its header and its checksum (43_png_writer.md R266, R267). -/
theorem zlibStream_length (raw : List Byte) :
    (zlibStream raw).length = raw.length + 5 * storedCount raw.length + 6 := by
  have hblocks := storedBlocks_length raw (storedCount raw.length) (storedCount raw.length)
  rw [storedPieces_flatten, List.take_of_length_le (storedCount_covers _)] at hblocks
  rw [zlibStream, List.length_append, List.length_append, hblocks, bigEndian32_length]
  simp only [List.length_cons, List.length_nil]
  omega

/-- len(PNG) of 43_png_writer.md R275 is the length of the stream PNG_WRITE produces. -/
theorem pngBytes_length (s : State) : s.pngBytes.length = pngLength s.latchedSize s.colourMode.bpp := by
  have hraw := rawStream_length (s.readMatrix s.latchedSize) s.latchedSize s.colourMode (pixelBytes_colourMode s)
  simp only [State.pngBytes, pngStream, pngLength, List.length_append, chunk_length, zlibStream_length, hraw, ihdrData,
    bigEndian32_length, pngSignature, typeIhdr, typeIdat, typeIend, List.length_cons, List.length_nil]
  omega

/-! ## Writes that stay in one memory -/

/-- The `n` addresses from `base` up lie in the region `r`. -/
def fitsRegion (r : Region) (base n : Nat) : Prop := ∀ a, base ≤ a → a < base + n → regionOf a = r

/-- RS_ENCODE's operand checks keep its writes in EBUF (41_rs_encoder.md R165). -/
theorem rsEncode_fits (n k : Nat) (s : State) (h : rsEncodeCheck n k s = none) :
    fitsRegion .ebuf (Config.ebufBase + s.dstOperand) (rsenc (s.dataBlock s.srcOperand k) n).length := by
  have hdst : s.dstOperand + n ≤ Config.ebufSize :=
    of_decide_eq_true <| (firstFailure_eq_none _).mp h
      (decide (s.dstOperand + n ≤ Config.ebufSize), .unexpectedInput) (by simp)
  intro a hlow hhigh
  rw [rsenc_length_eq] at hhigh
  rw [regionOf_eq_ebuf]
  unfold Config.ebufBase Config.ebufSize at *
  omega

/-- ECC_SYMBOL writes within EBUF (41_rs_encoder.md R166). -/
theorem eccSymbol_fits (s : State) :
    fitsRegion .ebuf Config.ebufBase (symbolEcc (blockSpec s.versionOperand s.levelOperand) s).length := by
  have hlen := blockSpec_ecLen_le s.versionOperand s.levelOperand
  intro a hlow hhigh
  rw [symbolEcc_length] at hhigh
  rw [regionOf_eq_ebuf]
  unfold Config.ebufBase at *
  omega

/-- MAT_PLACE writes its codewords within CWBUF (42_matrix_builder.md R221). -/
theorem placedCodewords_fits (s : State) : fitsRegion .cwbuf Config.cwbufBase s.placedCodewords.length := by
  have hlen : s.placedCodewords.length ≤ 4096 := (interleave_length_le _ s).trans (blockSpec_columns_le _ _)
  intro a hlow hhigh
  rw [regionOf_eq_cwbuf]
  unfold Config.cwbufBase at *
  omega

/-- PNG_WRITE's size check keeps its writes in OBUF (43_png_writer.md R276). -/
theorem pngBytes_fits (s : State) (h : pngCheck Config.obufSize s = none) :
    fitsRegion .obuf Config.obufBase s.pngBytes.length := by
  have hlen : pngLength s.latchedSize s.colourMode.bpp ≤ Config.obufSize :=
    of_decide_eq_true <| (firstFailure_eq_none _).mp h
      (decide (pngLength s.latchedSize s.colourMode.bpp ≤ Config.obufSize), .writeError) (by simp)
  intro a hlow hhigh
  rw [pngBytes_length] at hhigh
  rw [regionOf_eq_obuf]
  unfold Config.obufBase Config.obufSize at *
  omega

end Sys2Proof.Machine
end

section
/-! SUPPORT. What each command leaves unchanged: bytes outside its memories, operand registers, and the effect of fields it
does not read. -/

namespace Sys2Proof.Machine

/-! ## Outcomes -/

/-- What holds of a command's start, of its failures and of its writes holds of its next state. -/
theorem runCommand_keeps (P : State → Prop) (check : State → Option ResultKind) (writes : State → State) (s : State)
    (hskip : P s) (hfail : ∀ k, check s = some k → P (fail k s)) (hwrites : check s = none → P (writes s)) (t : State)
    (h : runCommand check writes s = .next t) : P t := by
  rcases runCommand_cases check writes s t h with ⟨-, rfl⟩ | ⟨-, k, hk, rfl⟩ | ⟨-, hk, rfl⟩
  · exact hskip
  · exact hfail k hk
  · exact hwrites hk

/-- Every command gives a next state (70_reset_and_hazards.md R369). -/
theorem exec_next (i : Instr) (s : State) : ∃ t, exec i s = .next t := by
  cases i with
  | clear => exact ⟨_, exec_clear s⟩
  | reset => exact ⟨_, exec_reset s⟩
  | nop => rw [exec_nop]; exact runCommand_next _ _ s
  | _ => exact runCommand_next _ _ s

/-- What MAT_EVAL keeps, the eight evaluations of MAT_BUILD keep (42_matrix_builder.md R224). -/
theorem evalAllWrites_keeps (P : State → Prop) (h : ∀ m t, P t → P (evalWrites m t)) (s : State) (hs : P s) :
    P (evalAllWrites s) := by
  unfold evalAllWrites
  generalize List.range Config.nMask = l
  induction l generalizing s with
  | nil => exact hs
  | cons m l ih => exact ih _ (h m s hs)

/-! ## Bytes outside a command's memories -/

/-- `t` has the bytes of `s` at every address outside the regions `rs`. -/
def keepsOutside (rs : List Region) (s t : State) : Prop := ∀ a, regionOf a ∉ rs → t.byteAt a = s.byteAt a

theorem keepsOutside_trans {rs rs' : List Region} {s t u : State} (h : keepsOutside rs s t) (h' : keepsOutside rs' t u) :
    keepsOutside (rs ++ rs') s u := fun a ha => by
  rw [List.mem_append, not_or] at ha
  exact (h' a ha.2).trans (h a ha.1)

theorem keepsOutside_mono {rs rs' : List Region} {s t : State} (hsub : rs ⊆ rs') (h : keepsOutside rs s t) :
    keepsOutside rs' s t := fun a ha => h a fun hin => ha (hsub hin)

/-- A command that writes registers alone keeps every byte. -/
theorem keepsOutside_of_mem (rs : List Region) (s t : State) (hm : t.mem = s.mem) (he : t.epoch = s.epoch) :
    keepsOutside rs s t := fun a _ => byteAt_congr s t a hm he

theorem keepsOutside_storeBytes (r : Region) (base : Nat) (bs : List Byte) (s : State)
    (h : fitsRegion r base bs.length) : keepsOutside [r] s (storeBytes base bs s) := by
  intro a ha
  rw [byteAt_storeBytes, if_neg]
  exact fun hin => ha (List.mem_singleton.mpr (h a hin.1 hin.2))

theorem keepsOutside_storeMatrix (m : Matrix) (n : Nat) (s : State) : keepsOutside [.mat] s (storeMatrix m n s) := by
  intro a ha
  refine byteAt_storeMatrix_outside m n s a (Bool.eq_false_iff.mpr fun hin => ha ?_)
  exact List.mem_singleton.mpr (inSymbol_exists _ a (min_le_right _ _) hin).1

theorem keepsOutside_rsEncodeWrites (n k : Nat) (s : State) (h : rsEncodeCheck n k s = none) :
    keepsOutside [.ebuf] s (rsEncodeWrites n k s) :=
  keepsOutside_storeBytes _ _ _ s (rsEncode_fits n k s h)

theorem keepsOutside_eccSymbolWrites (s : State) : keepsOutside [.ebuf] s (eccSymbolWrites s) :=
  keepsOutside_storeBytes _ _ _ s (eccSymbol_fits s)

theorem keepsOutside_frameWrites (s : State) : keepsOutside [.mat] s (frameWrites s) := fun a ha =>
  (byteAt_frameWrites s a).trans (keepsOutside_storeMatrix _ _ s a ha)

theorem keepsOutside_placeWrites (s : State) : keepsOutside [.cwbuf, .mat] s (placeWrites s) := fun a ha =>
  (byteAt_placeWrites s a).trans <|
    keepsOutside_trans (keepsOutside_storeBytes _ _ _ s (placedCodewords_fits s)) (keepsOutside_storeMatrix _ _ _) a ha

theorem keepsOutside_maskWrites (m : Nat) (s : State) : keepsOutside [.mat] s (maskWrites m s) := fun a ha =>
  (byteAt_maskWrites m s a).trans (keepsOutside_storeMatrix _ _ s a ha)

theorem keepsOutside_evalAllWrites (s : State) : keepsOutside [] s (evalAllWrites s) := fun a _ =>
  evalAllWrites_keeps (fun t => t.byteAt a = s.byteAt a) (fun m t ht => (byteAt_evalWrites m t a).trans ht) s rfl

theorem keepsOutside_buildWrites (s : State) : keepsOutside [.cwbuf, .mat] s (buildWrites s) :=
  keepsOutside_mono (by simp) <|
    keepsOutside_trans (keepsOutside_frameWrites s) <|
      keepsOutside_trans (keepsOutside_placeWrites _) <|
        keepsOutside_trans (keepsOutside_evalAllWrites _) (keepsOutside_maskWrites _ _)

theorem keepsOutside_pngWrites (s : State) (h : pngCheck Config.obufSize s = none) :
    keepsOutside [.obuf] s (pngWrites s) := fun a ha =>
  (byteAt_pngWrites s a).trans (keepsOutside_storeBytes _ _ _ s (pngBytes_fits s h) a ha)

/-- A command keeps every byte outside the regions when its writes do. -/
theorem runCommand_keepsOutside (rs : List Region) (check : State → Option ResultKind) (writes : State → State)
    (s t : State) (hwrites : check s = none → keepsOutside rs s (writes s))
    (h : runCommand check writes s = .next t) : keepsOutside rs s t :=
  runCommand_keeps (keepsOutside rs s) check writes s (fun _ _ => rfl)
    (fun k _ => keepsOutside_of_mem rs s (fail k s) rfl rfl) hwrites t h

/-- A command writes no memory but those named for it (20_memory.md R77). -/
theorem exec_keepsOutside (i : Instr) (s t : State) (h : exec i s = .next t) : keepsOutside (writtenRegions i) s t := by
  cases i with
  | nop => rw [exec_nop] at h; exact runCommand_keepsOutside _ _ _ s t (fun _ _ _ => rfl) h
  | clear => exact next_inj h ▸ keepsOutside_of_mem _ s (clearFailure s) rfl rfl
  | reset => exact next_inj h ▸ keepsOutside_of_mem _ s (softReset s) rfl rfl
  | rsEncode n k => exact runCommand_keepsOutside _ _ _ s t (keepsOutside_rsEncodeWrites n k s) h
  | eccSymbol => exact runCommand_keepsOutside _ _ _ s t (fun _ => keepsOutside_eccSymbolWrites s) h
  | matFrame => exact runCommand_keepsOutside _ _ _ s t (fun _ => keepsOutside_frameWrites s) h
  | matPlace => exact runCommand_keepsOutside _ _ _ s t (fun _ => keepsOutside_placeWrites s) h
  | matEval m => exact runCommand_keepsOutside _ _ _ s t (fun _ a _ => byteAt_evalWrites m s a) h
  | matMask m => exact runCommand_keepsOutside _ _ _ s t (fun _ => keepsOutside_maskWrites m s) h
  | matBuild => exact runCommand_keepsOutside _ _ _ s t (fun _ => keepsOutside_buildWrites s) h
  | pngWrite => exact runCommand_keepsOutside _ _ _ s t (keepsOutside_pngWrites s) h

/-! ## Operand registers -/

@[simp] theorem operandRegs_evalAllWrites (s : State) : (evalAllWrites s).operandRegs = s.operandRegs :=
  evalAllWrites_keeps (fun t => t.operandRegs = s.operandRegs)
    (fun m t ht => Eq.trans (by simp [State.operandRegs]) ht) s rfl

theorem operandRegs_frameWrites (s : State) : (frameWrites s).operandRegs = s.operandRegs := by
  simp [State.operandRegs]

theorem operandRegs_placeWrites (s : State) : (placeWrites s).operandRegs = s.operandRegs := by
  simp [State.operandRegs]

theorem operandRegs_maskWrites (m : Nat) (s : State) : (maskWrites m s).operandRegs = s.operandRegs := by
  simp [State.operandRegs]

theorem operandRegs_buildWrites (s : State) : (buildWrites s).operandRegs = s.operandRegs :=
  calc (buildWrites s).operandRegs
    _ = (evalAllWrites (placeWrites (frameWrites s))).operandRegs := operandRegs_maskWrites _ _
    _ = (placeWrites (frameWrites s)).operandRegs := operandRegs_evalAllWrites _
    _ = (frameWrites s).operandRegs := operandRegs_placeWrites _
    _ = s.operandRegs := operandRegs_frameWrites s

/-- A command keeps the operand registers when its writes do. -/
theorem runCommand_operandRegs (check : State → Option ResultKind) (writes : State → State) (s t : State)
    (hwrites : (writes s).operandRegs = s.operandRegs) (h : runCommand check writes s = .next t) :
    t.operandRegs = s.operandRegs :=
  runCommand_keeps (fun t => t.operandRegs = s.operandRegs) check writes s rfl (fun _ _ => rfl) (fun _ => hwrites) t h

/-- No command but RESET changes an operand register (10_state.md R21). -/
theorem exec_operandRegs (i : Instr) (s t : State) (hi : i ≠ .reset) (h : exec i s = .next t) :
    t.operandRegs = s.operandRegs := by
  cases i with
  | reset => exact absurd rfl hi
  | clear => exact next_inj h ▸ rfl
  | matFrame => exact runCommand_operandRegs _ _ s t (operandRegs_frameWrites s) h
  | matPlace => exact runCommand_operandRegs _ _ s t (operandRegs_placeWrites s) h
  | matMask m => exact runCommand_operandRegs _ _ s t (operandRegs_maskWrites m s) h
  | matBuild => exact runCommand_operandRegs _ _ s t (operandRegs_buildWrites s) h
  | nop => rw [exec_nop] at h; exact runCommand_operandRegs _ _ s t rfl h
  | rsEncode | eccSymbol | matEval | pngWrite =>
    exact runCommand_operandRegs _ _ s t (by simp [State.operandRegs]) h

/-- Settles O44, from what each command's writes keep. -/
theorem commandsTouchOnlyTheirOwn : Obligations.CommandsTouchOnlyTheirOwn := by
  refine ⟨fun i s => ?_, exec_operandRegs⟩
  obtain ⟨t, ht⟩ := exec_next i s
  exact ⟨t, ht, exec_keepsOutside i s t ht⟩

/-! ## Fields a command does not read -/

/-- An update `f` of fields that neither the check nor the writes of a command read commutes with the command. -/
theorem runCommand_commutes (f : State → State) (check : State → Option ResultKind) (writes : State → State)
    (s : State) (hresult : (f s).result = s.result) (hcheck : check (f s) = check s)
    (hfail : ∀ k, fail k (f s) = f (fail k s)) (hwrites : writes (f s) = f (writes s)) :
    runCommand check writes (f s) = thenRun (runCommand check writes s) fun t => .next (f t) := by
  unfold runCommand
  rw [hresult, hcheck, hwrites]
  split
  · rfl
  · cases check s with
    | none => rfl
    | some k => exact congrArg Host.Outcome.next (hfail k)

/-- VERSION put in. -/
def withVersion (v : BitVec 6) (s : State) : State := { s with version := v }

/-- VERSION and LEVEL put in. -/
def withConfig (v : BitVec 6) (l : BitVec 2) (s : State) : State := { s with version := v, level := l }

/-- Neither the candidates nor their penalties read VERSION and LEVEL: MAT, MSIZE and MLEVEL give them
(42_matrix_builder.md R222). -/
theorem candidatePenalty_withConfig (v : BitVec 6) (l : BitVec 2) (m : Nat) (s : State) :
    (withConfig v l s).candidatePenalty m = s.candidatePenalty m := rfl

/-- Nor does the stream PNG_WRITE produces (43_png_writer.md R276). -/
theorem pngBytes_withConfig (v : BitVec 6) (l : BitVec 2) (s : State) : (withConfig v l s).pngBytes = s.pngBytes := rfl

theorem evalWrites_withConfig (v : BitVec 6) (l : BitVec 2) (m : Nat) (s : State) :
    evalWrites m (withConfig v l s) = withConfig v l (evalWrites m s) := by
  rw [evalWrites, candidatePenalty_withConfig]
  rfl

theorem maskWrites_withConfig (v : BitVec 6) (l : BitVec 2) (m : Nat) (s : State) :
    maskWrites m (withConfig v l s) = withConfig v l (maskWrites m s) := by
  unfold maskWrites
  rw [candidatePenalty_withConfig]
  rfl

theorem pngWrites_withConfig (v : BitVec 6) (l : BitVec 2) (s : State) :
    pngWrites (withConfig v l s) = withConfig v l (pngWrites s) := by
  unfold pngWrites
  rw [pngBytes_withConfig]
  rfl

/-- The codewords MAT_PLACE computes follow MVER and LEVEL, not VERSION (42_matrix_builder.md R221). -/
theorem placedCodewords_withVersion (v : BitVec 6) (s : State) : (withVersion v s).placedCodewords = s.placedCodewords :=
  rfl

theorem placeWrites_withVersion (v : BitVec 6) (s : State) :
    placeWrites (withVersion v s) = withVersion v (placeWrites s) := by
  unfold placeWrites
  rw [placedCodewords_withVersion]
  rfl

/-- The matrix commands after the placement, and PNG_WRITE, do not read VERSION and LEVEL (10_state.md R41). -/
theorem exec_withConfig (i : Instr) (hi : (∃ m, i = .matEval m) ∨ (∃ m, i = .matMask m) ∨ i = .pngWrite) (s : State)
    (v : BitVec 6) (l : BitVec 2) :
    exec i (withConfig v l s) = thenRun (exec i s) fun t => .next (withConfig v l t) := by
  rcases hi with ⟨m, rfl⟩ | ⟨m, rfl⟩ | rfl
  · exact runCommand_commutes (withConfig v l) _ _ s rfl rfl (fun _ => rfl) (evalWrites_withConfig v l m s)
  · exact runCommand_commutes (withConfig v l) _ _ s rfl rfl (fun _ => rfl) (maskWrites_withConfig v l m s)
  · exact runCommand_commutes (withConfig v l) _ _ s rfl rfl (fun _ => rfl) (pngWrites_withConfig v l s)

/-- Settles O45: the four commands commute with the change of the fields they do not read. -/
theorem latchedConfigShieldsMatrix : Obligations.LatchedConfigShieldsMatrix :=
  ⟨fun i s v l hi => exec_withConfig i hi s v l, fun s v =>
    runCommand_commutes (withVersion v) _ _ s rfl rfl (fun _ => rfl) (placeWrites_withVersion v s)⟩

end Sys2Proof.Machine
end

section
/-! SUPPORT. The legal states: what each command, each access and each step keeps. -/

namespace Sys2Proof.Machine

/-! ## Legal memory -/

/-- A cell that legal memory may list: a byte or a module exists there, and a module has two bits (20_memory.md R76,
R78). -/
def cellLegal (c : Host.Cell) : Prop := byteExists c.1 = true ∧ (regionOf c.1 = .mat → c.2.toNat < 4)

theorem memoryLegal_of_mem_eq {s t : State} (hm : t.mem = s.mem) (h : s.memoryLegal) : t.memoryLegal := by
  unfold State.memoryLegal at *
  rwa [hm]

/-- Overwriting lists only new and old cells. -/
theorem mem_overwrite (inside : Nat → Bool) (new m : Memory) (c : Host.Cell)
    (h : c ∈ Memory.overwrite inside new m) : c ∈ new ∨ c ∈ m := by
  rw [Memory.overwrite, mem_merge] at h
  exact h.imp_right fun hold => (List.mem_filter.mp hold).1

/-- A run of bytes within a buffer is legal (20_memory.md R76). -/
theorem cellLegal_of_fits (r : Region) (hr : r ∈ [Region.dbuf, .ebuf, .cwbuf, .obuf]) (base : Nat) (bs : List Byte)
    (hfit : fitsRegion r base bs.length) : ∀ c ∈ cellsFrom base bs, cellLegal c := by
  intro c hc
  obtain ⟨hlow, hhigh⟩ := cellsFrom_bounds base bs c hc
  have hreg : regionOf c.1 = r := hfit c.1 hlow hhigh
  refine ⟨(byteExists_iff_region _).mpr (.inl (hreg ▸ hr)), fun hmat => ?_⟩
  rw [← hreg, hmat] at hr
  simp at hr

/-- The modules of an array of side at most MAT_DIM are legal (20_memory.md R78). -/
theorem cellLegal_matrixCells (m : Matrix) (n : Nat) (hn : n ≤ Config.matDim) : ∀ c ∈ matrixCells m n, cellLegal c := by
  intro c hc
  have hdim : Config.matDim ≤ 256 := by decide
  refine ⟨(inSymbol_exists n c.1 hn (matrixCells_inside m n (hn.trans hdim) c hc)).2, fun _ => ?_⟩
  obtain ⟨y, -, hrow⟩ := List.mem_flatMap.mp hc
  obtain ⟨x, -, hbyte⟩ := List.mem_map.mp (cellsFrom_snd_mem _ _ c hrow)
  exact hbyte ▸ toByte_lt _

theorem memoryLegal_storeBytes (r : Region) (hr : r ∈ [Region.dbuf, .ebuf, .cwbuf, .obuf]) (base : Nat) (bs : List Byte)
    (s : State) (hfit : fitsRegion r base bs.length) (h : s.memoryLegal) : (storeBytes base bs s).memoryLegal := by
  obtain ⟨hwf, hcells⟩ := h
  refine ⟨storeBytes_keeps_wf base bs s hwf, fun c hc => ?_⟩
  exact (mem_overwrite _ _ _ c hc).elim (cellLegal_of_fits r hr base bs hfit c) (hcells c)

theorem memoryLegal_storeMatrix (m : Matrix) (n : Nat) (s : State) (h : s.memoryLegal) :
    (storeMatrix m n s).memoryLegal := by
  obtain ⟨hwf, hcells⟩ := h
  refine ⟨storeMatrix_keeps_wf m n s hwf, fun c hc => ?_⟩
  exact (mem_overwrite _ _ _ c hc).elim (cellLegal_matrixCells m _ (min_le_right _ _) c) (hcells c)

theorem frameWrites_mem (s : State) :
    (frameWrites s).mem =
      (storeMatrix (matTabulate Config.matDim (framedModule s.versionOperand)) Config.matDim s).mem := by
  simp only [frameWrites, dropScores_mem]

theorem placeWrites_mem (s : State) :
    (placeWrites s).mem =
      (storeMatrix (place s.latchedVersion (s.readMatrix (side s.latchedVersion)) s.placedCodewords)
        (side s.latchedVersion) (storeBytes Config.cwbufBase s.placedCodewords s)).mem := by
  simp only [placeWrites, dropScores_mem]

theorem maskWrites_mem (m : Nat) (s : State) :
    (maskWrites m s).mem = (storeMatrix (s.candidate m) s.latchedSize s).mem := by
  simp only [maskWrites, recordPenalty_mem]

theorem memoryLegal_frameWrites (s : State) (h : s.memoryLegal) : (frameWrites s).memoryLegal :=
  memoryLegal_of_mem_eq (frameWrites_mem s) (memoryLegal_storeMatrix _ _ s h)

theorem memoryLegal_placeWrites (s : State) (h : s.memoryLegal) : (placeWrites s).memoryLegal :=
  memoryLegal_of_mem_eq (placeWrites_mem s) <|
    memoryLegal_storeMatrix _ _ _ <|
      memoryLegal_storeBytes .cwbuf (by decide) _ _ s (placedCodewords_fits s) h

theorem memoryLegal_maskWrites (m : Nat) (s : State) (h : s.memoryLegal) : (maskWrites m s).memoryLegal :=
  memoryLegal_of_mem_eq (maskWrites_mem m s) (memoryLegal_storeMatrix _ _ s h)

theorem memoryLegal_pngWrites (s : State) (hcheck : pngCheck Config.obufSize s = none) (h : s.memoryLegal) :
    (pngWrites s).memoryLegal :=
  memoryLegal_of_mem_eq (by simp only [pngWrites]) <|
    memoryLegal_storeBytes .obuf (by decide) _ _ s (pngBytes_fits s hcheck) h

/-! ## Scores -/

/-- `PENV[j]` after `PENV[m] <- 1` (42_matrix_builder.md R222). -/
theorem getLsbD_setPenv (penv : BitVec 8) (m j : Nat) (hj : j < 8) :
    (setPenv penv m).getLsbD j = (penv.getLsbD j || decide (j = m)) := by
  rw [setPenv, BitVec.getLsbD_or, BitVec.getLsbD_shiftLeft]
  congr 1
  rcases Nat.lt_trichotomy j m with h | h | h
  · simp [hj, h, Nat.ne_of_lt h]
  · subst h; simp [hj]
  · have hbit : (1#8).getLsbD (j - m) = false := by
      rw [BitVec.getLsbD_one]; simp; omega
    simp [hbit, Nat.ne_of_gt h]

/-- A score that `PENm <- p` does not write stays. -/
theorem penAt_setIfInBounds_ne (pen : Vector Word 8) (m j : Nat) (p : Word) (h : j ≠ m) :
    ((pen.setIfInBounds m p)[j]?).getD 0 = (pen[j]?).getD 0 := by
  rw [Vector.getElem?_setIfInBounds_ne h.symm]

/-- A PEN register that is not valid is 0 (10_state.md R44). -/
def State.invalidScoresZero (s : State) : Prop := ∀ m, m < 8 → s.penv.getLsbD m = false → s.penAt m = 0

/-- `PENm <- p ; PENV[m] <- 1` makes no score invalid that is not 0 (42_matrix_builder.md R222). -/
theorem invalidScoresZero_recorded (m : Nat) (p : Word) (s t : State) (hpenv : t.penv = setPenv s.penv m)
    (hpen : t.pen = s.pen.setIfInBounds m p) (h : s.invalidScoresZero) : t.invalidScoresZero := by
  intro j hj hbit
  rw [hpenv, getLsbD_setPenv _ _ _ hj, Bool.or_eq_false_iff, decide_eq_false_iff_not] at hbit
  obtain ⟨hold, hne⟩ := hbit
  rw [State.penAt, hpen, penAt_setIfInBounds_ne _ _ _ _ hne]
  exact h j hj hold

theorem invalidScoresZero_dropped (s : State) (h : s.pen = Vector.replicate 8 0) : s.invalidScoresZero := by
  intro j hj _
  simp [State.penAt, h, hj]

/-! ## What the writes of each command keep -/

theorem legalVersion_iff (v : Nat) : legalVersion v = true ↔ 1 ≤ v ∧ v ≤ 40 := by
  rw [legalVersion, Bool.and_eq_true, decide_eq_true_eq, decide_eq_true_eq]
  rfl

theorem side_le (v : Nat) (h : legalVersion v = true) : side v ≤ 177 := by
  have := (legalVersion_iff v).mp h
  unfold side
  omega

/-- Writing bytes within a buffer keeps the state legal. -/
theorem legal_storeBytes (r : Region) (hr : r ∈ [Region.dbuf, .ebuf, .cwbuf, .obuf]) (base : Nat) (bs : List Byte)
    (s : State) (hfit : fitsRegion r base bs.length) (h : s.legal) : (storeBytes base bs s).legal := by
  obtain ⟨hlife, hresult, hconfig, hscores, hmem⟩ := h
  exact ⟨hlife, hresult, hconfig, hscores, memoryLegal_storeBytes r hr base bs s hfit hmem⟩

theorem configLegal_frameWrites (s : State) (hv : legalVersion s.versionOperand = true) :
    (frameWrites s).configLegal := by
  have hside := side_le _ hv
  have hver : (frameWrites s).latchedVersion = s.versionOperand := by
    rw [State.latchedVersion, frameWrites_mver, State.versionOperand]
  refine ⟨fun h => absurd h (by simp), fun _ => ⟨hver ▸ hv, ?_⟩⟩
  rw [hver, State.latchedSize, frameWrites_msize, BitVec.toNat_ofNat]
  exact Nat.mod_eq_of_lt (by omega)

/-- MAT_FRAME with a legal Version gives a legal framed state (42_matrix_builder.md R220). -/
theorem legal_frameWrites (s : State) (hv : legalVersion s.versionOperand = true) (h : s.legal) :
    (frameWrites s).legal := by
  obtain ⟨hlife, hresult, -, ⟨-, -, -, -, holen⟩, hmem⟩ := h
  refine ⟨by simpa [State.lifeLegal] using hlife, by simpa [State.resultLegal] using hresult,
    configLegal_frameWrites s hv, ⟨?_, ?_, ?_, invalidScoresZero_dropped _ (by simp), ?_⟩,
    memoryLegal_frameWrites s hmem⟩
  · simp
  · simp
  · simp
  · simpa using holen

/-- MAT_PLACE of a framed matrix gives a legal placed state (42_matrix_builder.md R221). -/
theorem legal_placeWrites (s : State) (hp : s.mstate ≠ .empty) (h : s.legal) : (placeWrites s).legal := by
  obtain ⟨hlife, hresult, ⟨-, hconfig⟩, ⟨-, -, -, -, holen⟩, hmem⟩ := h
  obtain ⟨hv, hsize⟩ := hconfig hp
  have hcwlen : totalCodewords s.latchedVersion ≤ 3706 :=
    totalCodewords_le _ ((legalVersion_iff _).mp hv).2
  refine ⟨by simpa [State.lifeLegal] using hlife, by simpa [State.resultLegal] using hresult,
    ⟨fun h => absurd h (by simp), fun _ => ?_⟩, ⟨?_, fun _ => ?_, ?_, invalidScoresZero_dropped _ (by simp), ?_⟩,
    memoryLegal_placeWrites s hmem⟩
  · simpa [State.latchedVersion, State.latchedSize] using And.intro hv hsize
  · simp
  · have hver : (placeWrites s).latchedVersion = s.latchedVersion := by simp [State.latchedVersion]
    rw [placeWrites_cwlen, hver, BitVec.toNat_ofNat]
    exact Nat.mod_eq_of_lt (by omega)
  · simp
  · simpa using holen

/-- MAT_EVAL of a placed matrix keeps it legal (42_matrix_builder.md R222). -/
theorem legal_evalWrites (m : Nat) (s : State) (hp : s.mstate = .placed) (h : s.legal) : (evalWrites m s).legal := by
  obtain ⟨hlife, hresult, hconfig, ⟨-, hcwlen, hsel, hpen, holen⟩, hmem⟩ := h
  refine ⟨by simpa [State.lifeLegal] using hlife, by simpa [State.resultLegal] using hresult,
    by simpa [State.configLegal, State.latchedVersion, State.latchedSize] using hconfig,
    ⟨?_, ?_, ?_, invalidScoresZero_recorded m _ s _ (evalWrites_penv m s) (evalWrites_pen m s) hpen, ?_⟩,
    memoryLegal_of_mem_eq (evalWrites_mem m s) hmem⟩
  · simp [hp]
  · simpa [State.latchedVersion] using hcwlen
  · simpa using hsel
  · simpa using holen

/-- MAT_MASK of a placed matrix gives a legal masked state (42_matrix_builder.md R223). -/
theorem legal_maskWrites (m : Nat) (s : State) (hp : s.mstate = .placed) (h : s.legal) : (maskWrites m s).legal := by
  obtain ⟨hlife, hresult, ⟨-, hconfig⟩, ⟨-, hcwlen, -, hpen, holen⟩, hmem⟩ := h
  refine ⟨by simpa [State.lifeLegal] using hlife, by simpa [State.resultLegal] using hresult,
    ⟨fun h => absurd h (by simp), fun _ => ?_⟩,
    ⟨?_, fun _ => ?_, ?_, invalidScoresZero_recorded m _ s _ (maskWrites_penv m s) (maskWrites_pen m s) hpen, ?_⟩,
    memoryLegal_maskWrites m s hmem⟩
  · simpa [State.latchedVersion, State.latchedSize] using hconfig (by simp [hp])
  · simp
  · simpa [State.latchedVersion] using hcwlen (.inl hp)
  · simp
  · simpa using holen

/-- The eight evaluations keep a placed state legal and placed (42_matrix_builder.md R224). -/
theorem legal_evalAllWrites (s : State) (hp : s.mstate = .placed) (h : s.legal) :
    (evalAllWrites s).legal ∧ (evalAllWrites s).mstate = .placed :=
  evalAllWrites_keeps (fun t => t.legal ∧ t.mstate = .placed)
    (fun m t ⟨ht, hpt⟩ => ⟨legal_evalWrites m t hpt ht, by simpa using hpt⟩) s ⟨h, hp⟩

/-- MAT_BUILD with a legal Version gives a legal masked state (42_matrix_builder.md R224). -/
theorem legal_buildWrites (s : State) (hv : legalVersion s.versionOperand = true) (h : s.legal) :
    (buildWrites s).legal := by
  have hplaced := legal_placeWrites (frameWrites s) (by simp) (legal_frameWrites s hv h)
  obtain ⟨heval, hphase⟩ := legal_evalAllWrites _ (by simp) hplaced
  exact legal_maskWrites _ _ hphase heval

/-- PNG_WRITE keeps the state legal (43_png_writer.md R276). -/
theorem legal_pngWrites (s : State) (hcheck : pngCheck Config.obufSize s = none) (h : s.legal) : (pngWrites s).legal := by
  obtain ⟨hlife, hresult, hconfig, ⟨hearly, hcwlen, hsel, hpen, -⟩, hmem⟩ := h
  refine ⟨hlife, hresult, hconfig, ⟨hearly, hcwlen, hsel, hpen, fun hov => ?_⟩, memoryLegal_pngWrites s hcheck hmem⟩
  simp at hov

/-! ## Failure, CLEAR and the resets -/

/-- A kind QRSB can raise (60_exceptions.md R330). -/
def ResultKind.raised (k : ResultKind) : Prop := k ∈ [ResultKind.writeError, .unexpectedInput, .noSymbolProduced]

/-- A failure of a kind QRSB raises keeps the state legal (40_system_commands.md R135). -/
theorem legal_fail (k : ResultKind) (hk : k.raised) (s : State) (h : s.legal) : (fail k s).legal := by
  obtain ⟨hlife, -, hconfig, hscores, hmem⟩ := h
  refine ⟨hlife, ?_, hconfig, hscores, hmem⟩
  rw [State.resultLegal, fail_result, fail_errcmd]
  simp only [ResultKind.raised, List.mem_cons, List.not_mem_nil, or_false] at hk
  rcases hk with rfl | rfl | rfl <;> exact ⟨fun h0 => absurd h0 (by decide), by decide⟩

/-- CLEAR keeps the state legal (40_system_commands.md R138). -/
theorem legal_clearFailure (s : State) (h : s.legal) : (clearFailure s).legal := by
  obtain ⟨hlife, -, hconfig, hscores, hmem⟩ := h
  exact ⟨hlife, by simp [State.resultLegal], hconfig, hscores, hmem⟩

/-- The registers' reset values with any legal memory are legal (10_state.md R60). -/
theorem legal_of_softReset_eq (s : State) (h : softReset s = s) (hmem : s.memoryLegal) : s.legal := by
  rw [← h]
  refine ⟨?_, ?_, ?_, ?_, hmem⟩
  · simp [State.lifeLegal]
  · simp [State.resultLegal]
  · simp [State.configLegal]
  · exact ⟨by simp, by simp, by simp, invalidScoresZero_dropped _ rfl, by simp⟩

theorem memoryLegal_nil (s : State) (h : s.mem = []) : s.memoryLegal := by
  rw [State.memoryLegal, h]
  exact ⟨List.Pairwise.nil, by simp⟩

/-- The state after hard reset is legal (10_state.md R60, R61). -/
theorem legal_reset : State.reset.legal := legal_of_softReset_eq _ rfl (memoryLegal_nil _ rfl)

/-- RESET keeps the state legal (40_system_commands.md R139). -/
theorem legal_softReset (s : State) (h : s.legal) : (softReset s).legal := by
  obtain ⟨-, -, -, -, hmem⟩ := h
  exact legal_of_softReset_eq _ rfl hmem

/-- Hard reset gives a legal state from every state (70_reset_and_hazards.md R360). -/
theorem legal_hardReset (s : State) : (hardReset s).legal := legal_of_softReset_eq _ rfl (memoryLegal_nil _ rfl)

/-! ## Commands -/

/-- A check whose preconditions name only kinds QRSB raises fails only with those. -/
theorem firstFailure_raised (l : List (Bool × ResultKind)) (hl : ∀ k ∈ l.map Prod.snd, k.raised) (k : ResultKind)
    (h : firstFailure l = some k) : k.raised :=
  hl k (firstFailure_eq_some l k h)

/-- A command keeps the state legal when its check raises only what QRSB can raise and its writes keep it. -/
theorem runCommand_legal (check : State → Option ResultKind) (writes : State → State) (s t : State) (hs : s.legal)
    (hcheck : ∀ k, check s = some k → k.raised) (hwrites : check s = none → (writes s).legal)
    (h : runCommand check writes s = .next t) : t.legal :=
  runCommand_keeps State.legal check writes s hs (fun k hk => legal_fail k (hcheck k hk) s hs) hwrites t h

/-- Every command keeps the state legal. -/
theorem exec_legal (i : Instr) (s t : State) (hs : s.legal) (h : exec i s = .next t) : t.legal := by
  cases i with
  | nop => rw [exec_nop] at h; exact runCommand_legal _ _ s t hs (fun k hk => absurd hk (by simp)) (fun _ => hs) h
  | clear => exact next_inj h ▸ legal_clearFailure s hs
  | reset => exact next_inj h ▸ legal_softReset s hs
  | rsEncode n k =>
    exact runCommand_legal _ _ s t hs (firstFailure_raised _ (by simp [ResultKind.raised]))
      (fun hc => legal_storeBytes .ebuf (by decide) _ _ s (rsEncode_fits n k s hc) hs) h
  | eccSymbol =>
    exact runCommand_legal _ _ s t hs (firstFailure_raised _ (by simp [ResultKind.raised]))
      (fun _ => legal_storeBytes .ebuf (by decide) _ _ s (eccSymbol_fits s) hs) h
  | matFrame =>
    exact runCommand_legal _ _ s t hs (firstFailure_raised _ (by simp [ResultKind.raised]))
      (fun hc => legal_frameWrites s ((versionCheck_none s).mp hc) hs) h
  | matPlace =>
    exact runCommand_legal _ _ s t hs (firstFailure_raised _ (by simp [ResultKind.raised]))
      (fun hc => legal_placeWrites s ((placeCheck_none s).mp hc) hs) h
  | matEval m =>
    exact runCommand_legal _ _ s t hs (firstFailure_raised _ (by simp [ResultKind.raised]))
      (fun hc => legal_evalWrites m s ((placedCheck_none s).mp hc) hs) h
  | matMask m =>
    exact runCommand_legal _ _ s t hs (firstFailure_raised _ (by simp [ResultKind.raised]))
      (fun hc => legal_maskWrites m s ((placedCheck_none s).mp hc) hs) h
  | matBuild =>
    exact runCommand_legal _ _ s t hs (firstFailure_raised _ (by simp [ResultKind.raised]))
      (fun hc => legal_buildWrites s ((versionCheck_none s).mp hc) hs) h
  | pngWrite =>
    exact runCommand_legal _ _ s t hs (firstFailure_raised _ (by simp [ResultKind.raised]))
      (fun hc => legal_pngWrites s hc hs) h

/-! ## Accesses and steps -/

/-- An accepted register write keeps the state legal: it changes an operand register, or accepts a command
(10_state.md R24). -/
theorem legal_writeReg (v : Word) (s t : State) (r : Reg) (hs : s.legal) (h : writeReg v s r = some t) : t.legal := by
  cases r with
  | ctrl | version | level | rsSrc | rsDst | colorR | colorG | colorB =>
    obtain rfl := Option.some.inj h
    exact hs
  | cmd =>
    obtain rfl := Option.some.inj h
    obtain ⟨-, hrest⟩ := hs
    exact ⟨by simp [State.lifeLegal], hrest⟩
  | _ => exact nomatch h

theorem legal_hostWrite32 (a : Nat) (v : Word) (s : State) (hs : s.legal) : (hostWrite32 a v s).2.legal := by
  unfold hostWrite32
  cases hw : (regAt a).bind (writeReg v s) with
  | none => exact hs
  | some t =>
    obtain ⟨r, -, hr⟩ := Option.bind_eq_some_iff.mp hw
    cases s.busy
    · exact legal_writeReg v s t r hs hr
    · exact hs

theorem legal_hostWrite8 (a : Nat) (v : Byte) (s : State) (hs : s.legal) : (hostWrite8 a v s).2.legal := by
  unfold hostWrite8
  split
  case isFalse => exact hs
  case isTrue hw =>
    split
    · exact hs
    · have hfit : ∀ b, a ≤ b → b < a + [v].length → b = a := fun b h1 h2 => by simp at h2; omega
      rcases (byteWritable_iff_region a).mp hw with hr | hr
      · exact legal_storeBytes .dbuf (by decide) a [v] s (fun b h1 h2 => hfit b h1 h2 ▸ hr) hs
      · exact legal_storeBytes .ebuf (by decide) a [v] s (fun b h1 h2 => hfit b h1 h2 ▸ hr) hs

theorem legal_hostRead8 (a : Nat) (s : State) (hs : s.legal) : (hostRead8 a s).2.legal := by
  unfold hostRead8
  split_ifs <;> exact hs

/-- Every host access keeps the state legal (20_memory.md R70). -/
theorem legal_hostAccess (acc : Access) (s : State) (hs : s.legal) : (hostAccess acc s).legal := by
  have hport : (portAccess acc s).2.legal := by
    cases acc with
    | read32 a => exact hs
    | write32 a v => exact legal_hostWrite32 _ v s hs
    | read8 a => exact legal_hostRead8 _ s hs
    | write8 a v => exact legal_hostWrite8 _ v s hs
  exact hport

/-- A completion keeps the state legal (40_system_commands.md R133). -/
theorem complete_legal (s t : State) (hs : s.legal) (h : complete s = .next t) : t.legal := by
  cases hd : decode s.pending with
  | ok i => exact exec_legal i s t hs (complete_instr s i hd ▸ h)
  | error e =>
    rw [complete_illegal s e hd] at h
    refine runCommand_legal _ _ s t hs (fun k hk => ?_) (fun _ => hs) h
    obtain rfl := Option.some.inj hk
    simp [ResultKind.raised]

/-- What `mapNext` answers comes from a next state. -/
theorem mapNext_eq_next (f : State → State) (o : Host.Outcome State Fault Refusal) (t : State)
    (h : mapNext f o = .next t) : ∃ u, o = .next u ∧ t = f u := by
  cases o with
  | next u => exact ⟨u, rfl, next_inj h⟩
  | fault r => exact nomatch h
  | refused r => exact nomatch h

/-- The core's step keeps the state legal (40_system_commands.md R131). -/
theorem coreStep_legal (s t : State) (hs : s.legal) (h : coreStep s = .next t) : t.legal := by
  cases hb : s.busy with
  | false => exact next_inj ((coreStep_idle s hb).symm.trans h) ▸ hs
  | true =>
    rw [coreStep_busy s hb] at h
    obtain ⟨u, hu, rfl⟩ := mapNext_eq_next _ _ _ h
    obtain ⟨-, hrest⟩ := complete_legal s u hs hu
    exact ⟨by simp [State.lifeLegal], hrest⟩

/-- Every event keeps the state legal. -/
theorem handleEvent_legal (e : Event) (s t : State) (hs : s.legal) (h : handleEvent e s = .next t) : t.legal := by
  cases e with
  | host acc => exact next_inj h ▸ legal_hostAccess acc s hs
  | core => exact coreStep_legal s t hs h
  | hardReset => exact next_inj h ▸ legal_hardReset s

/-- Settles O54: the step is the core's or an event's, on a state that differs in its schedule alone. -/
theorem stepKeepsStateLegal : Obligations.StepKeepsStateLegal := by
  intro s t hs h
  rcases step_cases s with ⟨-, hstep⟩ | ⟨e, rest, -, hstep⟩
  · exact coreStep_legal s t hs (hstep ▸ h)
  · exact handleEvent_legal e { s with inputs := rest } t hs (hstep ▸ h)

/-- Settles O53: with MSTATE EMPTY the invariants of the matrix and of the codewords ask nothing. -/
theorem resetIsLegal : Obligations.ResetIsLegal := by
  refine ⟨legal_reset, fun hp => absurd rfl hp, ?_⟩
  exact ⟨fun hp => absurd hp (by decide), fun hp => absurd hp (by decide)⟩

end Sys2Proof.Machine
end

section
/-! SUPPORT. What the host port answers: after a bus error nothing has changed, and a byte of DBUF or EBUF is stored and shown. -/

namespace Sys2Proof.Machine

/-! ## Bus errors keep the state -/

/-- A 32-bit write that gets ERR wrote no register, and was not discarded with HAZ either (20_memory.md R72). -/
theorem hostWrite32_state_of_err (a : Nat) (v : Word) (s : State) (h : (hostWrite32 a v s).1 = .err) :
    (hostWrite32 a v s).2 = s := by
  have hro : ∀ r ∈ regAt a, regAccess r = .ro := (hostWrite32_eq_err a v s).mp h
  have hnone : (regAt a).bind (writeReg v s) = none :=
    Option.bind_eq_none_iff.mpr fun r hr => (writeReg_eq_none v s r).mpr (hro r hr)
  simp [hostWrite32, hnone]

/-- An 8-bit read that gets ERR drew no unspecified value (20_memory.md R73). -/
theorem hostRead8_state_of_err (a : Nat) (s : State) (h : (hostRead8 a s).1 = .err) : (hostRead8 a s).2 = s := by
  have hex : byteExists a = false := (hostRead8_eq_err a s).mp h
  simp [hostRead8, hex]

/-- An 8-bit write that gets ERR stored no byte, and was not discarded with HAZ either (20_memory.md R74). -/
theorem hostWrite8_state_of_err (a : Nat) (v : Byte) (s : State) (h : (hostWrite8 a v s).1 = .err) :
    (hostWrite8 a v s).2 = s := by
  have hw : byteWritable a = false := (hostWrite8_eq_err a v s).mp h
  simp [hostWrite8, hw]

/-- Settles O46, by the kind of access: a 32-bit read changes no state at all, and the others none when they get ERR. -/
theorem busErrorChangesNothing : Obligations.BusErrorChangesNothing := by
  intro acc s h
  cases acc with
  | read32 a => rfl
  | write32 a v => exact hostWrite32_state_of_err a.toNat v s h
  | read8 a => exact hostRead8_state_of_err a.toNat s h
  | write8 a v => exact hostWrite8_state_of_err a.toNat v s h

/-! ## Bytes of the buffers -/

/-- Where the host may write, a byte exists, and the port shows it as memory holds it (20_memory.md R73, R74). -/
theorem byteWritable_shown (a : Nat) (s : State) (h : byteWritable a = true) :
    byteExists a = true ∧ portByte s a = s.byteAt a := by
  have hbuf := (byteWritable_iff_region a).mp h
  refine ⟨(byteExists_iff_region a).mpr (.inl ?_), ?_⟩
  · rcases hbuf with hr | hr <;> simp [hr]
  · rcases hbuf with hr | hr <;> simp [portByte, hr]

/-- An accepted 8-bit write stores the byte (20_memory.md R74). -/
theorem hostWrite8_stores (a : Nat) (v : Byte) (s : State) (hb : s.busy = false) (h : byteWritable a = true) :
    hostWrite8 a v s = (.ok, storeBytes a [v] s) := by
  simp [hostWrite8, h, hb]

/-- An 8-bit read while BUSY is 0 answers what the port shows of the byte (20_memory.md R73). -/
theorem hostRead8_shows (a : Nat) (s : State) (hb : s.busy = false) (h : byteExists a = true) :
    hostRead8 a s = (.okByte (portByte s a), s) := by
  simp [hostRead8, h, hb]

/-- What storing one byte does to each byte. -/
theorem byteAt_storeByte (a : Nat) (v : Byte) (s : State) (b : Nat) :
    (storeBytes a [v] s).byteAt b = if b = a then v else s.byteAt b := by
  rw [byteAt_storeBytes]
  by_cases hba : b = a
  · simp [hba]
  · rw [if_neg hba, if_neg (by simp only [List.length_singleton]; omega)]

/-- Settles O49: the write stores one byte, which the read finds as stored; the store leaves BUSY and all registers alone. -/
theorem bufferWriteIsReadBack : Obligations.BufferWriteIsReadBack := by
  intro s a v hb hlow hhigh
  have hw : byteWritable a.toNat = true := (byteWritable_iff _).mpr ⟨hlow, by omega⟩
  obtain ⟨hex, hshow⟩ := byteWritable_shown a.toNat (storeBytes a.toNat [v] s) hw
  have hread : hostRead8 a.toNat (storeBytes a.toNat [v] s) = (.okByte v, storeBytes a.toNat [v] s) := by
    rw [hostRead8_shows _ (storeBytes a.toNat [v] s) hb hex, hshow, byteAt_storeByte, if_pos rfl]
  refine ⟨storeBytes a.toNat [v] s, hostWrite8_stores _ v s hb hw, hread, rfl, fun b hne => ?_⟩
  rw [byteAt_storeByte, if_neg hne]

end Sys2Proof.Machine
end

section
/-! SUPPORT. The decoder and the encoder (30_encoding.md R100 to R107): the rows of the opcode map by their low byte and
their reserved bits, and the inverse laws that follow. -/

namespace Sys2Proof.Machine

/-! ## What a mask does to a field -/

/-- A field whose bits the mask all holds is kept. -/
theorem extractLsb'_and_kept (w mask : Word) (lo len : Nat) (h : mask.extractLsb' lo len = BitVec.allOnes len) :
    (w &&& mask).extractLsb' lo len = w.extractLsb' lo len := by
  rw [BitVec.extractLsb'_and, h, BitVec.and_allOnes]

/-- A field no bit of which the mask holds is cleared. -/
theorem extractLsb'_and_cleared (w mask : Word) (lo len : Nat) (h : mask.extractLsb' lo len = 0) :
    (w &&& mask).extractLsb' lo len = 0 := by
  rw [BitVec.extractLsb'_and, h]
  exact BitVec.and_zero

/-- `extractLsb'_and_kept` for the opcode, bits 7:0. -/
theorem setWidth_and_kept (w mask : Word) (h : (mask.setWidth 8 : Byte) = BitVec.allOnes 8) :
    ((w &&& mask).setWidth 8 : Byte) = w.setWidth 8 := by
  rw [BitVec.setWidth_and, h, BitVec.and_allOnes]

/-- The word of an opcode alone has no bit above it. -/
theorem opcode_word_field (op : Byte) (lo len : Nat) (h : 8 ≤ lo) :
    (op.setWidth 32 : Word).extractLsb' lo len = 0 := by
  rw [← BitVec.toNat_inj, BitVec.extractLsb'_toNat, BitVec.toNat_setWidth_of_le (by decide), Nat.shiftRight_eq_zero]
  · simp
  · exact op.isLt.trans_le (Nat.pow_le_pow_right (by decide) h)

/-- The word of an opcode alone has the opcode in bits 7:0. -/
theorem opcode_word_opcode (op : Byte) : ((op.setWidth 32 : Word).setWidth 8 : Byte) = op := by
  simp

/-! ## The low byte of a row -/

/-- Every row compares all of bits 7:0 (30_encoding.md R101 to R103). -/
theorem mask_keeps_opcode : ∀ r ∈ opcodeTable, (r.mask.setWidth 8 : Byte) = BitVec.allOnes 8 := by
  decide

/-- The opcodes of two rows differ (30_encoding.md R105). -/
theorem opcodes_nodup : (opcodeTable.map fun r => (r.pattern.setWidth 8 : Byte)).Nodup := by
  decide

/-- A word that matches a row has the row's opcode in bits 7:0. -/
theorem opcode_of_match (r : OpcodeRow) (hr : r ∈ opcodeTable) (w : Word) (h : w &&& r.mask = r.pattern) :
    (w.setWidth 8 : Byte) = r.pattern.setWidth 8 := by
  rw [← h, setWidth_and_kept w r.mask (mask_keeps_opcode r hr)]

/-- At most one row of the opcode map matches a word (30_encoding.md R106). -/
theorem row_unique (r r' : OpcodeRow) (hr : r ∈ opcodeTable) (hr' : r' ∈ opcodeTable) (w : Word)
    (h : w &&& r.mask = r.pattern) (h' : w &&& r'.mask = r'.pattern) : r = r' :=
  List.inj_on_of_nodup_map opcodes_nodup hr hr' ((opcode_of_match r hr w h).symm.trans (opcode_of_match r' hr' w h'))

/-- Settles O3: two rows that match one word have its opcode in common, and the opcodes all differ. -/
theorem opcodeRowsNeverOverlap : Obligations.OpcodeRowsNeverOverlap := by
  refine (List.pairwise_map.mp opcodes_nodup).imp_of_mem fun {r r'} hr hr' hne w hboth => hne ?_
  exact (opcode_of_match r hr w hboth.1).symm.trans (opcode_of_match r' hr' w hboth.2)

/-! ## What decode answers -/

/-- The decoder answers what the row that matches reads (30_encoding.md R106). -/
theorem decode_of_match (r : OpcodeRow) (hr : r ∈ opcodeTable) (w : Word) (h : w &&& r.mask = r.pattern) :
    decode w = .ok (r.read w) := by
  unfold decode
  cases hfind : opcodeTable.find? (fun r => w &&& r.mask == r.pattern) with
  | none => exact absurd h (by simpa using List.find?_eq_none.mp hfind r hr)
  | some r' =>
    have hmatch : w &&& r'.mask = r'.pattern := by simpa using List.find?_some hfind
    rw [row_unique r r' hr (List.mem_of_find?_eq_some hfind) w h hmatch]

/-- A word that decodes matches a row, which reads its command. -/
theorem match_of_decode (w : Word) (i : Instr) (h : decode w = .ok i) :
    ∃ r ∈ opcodeTable, w &&& r.mask = r.pattern ∧ r.read w = i := by
  unfold decode at h
  cases hfind : opcodeTable.find? (fun r => w &&& r.mask == r.pattern) with
  | none => simp [hfind] at h
  | some r =>
    exact ⟨r, List.mem_of_find?_eq_some hfind, by simpa using List.find?_some hfind, by simpa [hfind] using h⟩

/-- The illegal words are those that match no row (30_encoding.md R107). -/
theorem decode_error_iff (w : Word) :
    (∃ e, decode w = .error e) ↔ ¬∃ r ∈ opcodeTable, w &&& r.mask = r.pattern := by
  constructor
  · rintro ⟨e, he⟩ ⟨r, hr, h⟩
    simp [decode_of_match r hr w h] at he
  · intro hnone
    cases hd : decode w with
    | error e => exact ⟨e, rfl⟩
    | ok i =>
      obtain ⟨r, hr, h, -⟩ := match_of_decode w i hd
      exact absurd ⟨r, hr, h⟩ hnone

/-! ## The formats: which words a row matches -/

/-- Format Z compares all 32 bits (30_encoding.md R101). -/
theorem and_maskZ (w : Word) : w &&& 0xFFFFFFFF = w :=
  BitVec.and_allOnes

/-- Two words with the same bits in every field of format M are equal (30_encoding.md R102). -/
theorem eq_of_fieldsM (w v : Word) (hop : (w.setWidth 8 : Byte) = v.setWidth 8)
    (hm : w.extractLsb' 8 3 = v.extractLsb' 8 3) (hzero : w.extractLsb' 11 21 = v.extractLsb' 11 21) : w = v := by
  simp only [← BitVec.toNat_inj, BitVec.toNat_setWidth, BitVec.extractLsb'_toNat, Nat.shiftRight_eq_div_pow] at *
  omega

/-- Two words with the same bits in every field of format K are equal (30_encoding.md R103). -/
theorem eq_of_fieldsK (w v : Word) (hop : (w.setWidth 8 : Byte) = v.setWidth 8)
    (hn : w.extractLsb' 8 5 = v.extractLsb' 8 5) (hlow : w.extractLsb' 13 3 = v.extractLsb' 13 3)
    (hk : w.extractLsb' 16 8 = v.extractLsb' 16 8) (hhigh : w.extractLsb' 24 8 = v.extractLsb' 24 8) : w = v := by
  simp only [← BitVec.toNat_inj, BitVec.toNat_setWidth, BitVec.extractLsb'_toNat, Nat.shiftRight_eq_div_pow] at *
  omega

/-- A row of format Z matches its opcode with bits 31:8 all 0 (30_encoding.md R101). -/
theorem matches_formatZ (w : Word) (op : Byte) :
    w &&& 0xFFFFFFFF = op.setWidth 32 ↔ (w.setWidth 8 : Byte) = op ∧ w.extractLsb' 8 24 = 0 := by
  rw [and_maskZ]
  simp only [← BitVec.toNat_inj, BitVec.toNat_setWidth, BitVec.extractLsb'_toNat, Nat.shiftRight_eq_div_pow,
    BitVec.ofNat_eq_ofNat, BitVec.toNat_ofNat]
  omega

/-- A row of format M matches its opcode with bits 31:11 all 0 (30_encoding.md R102). -/
theorem matches_formatM (w : Word) (op : Byte) :
    w &&& 0xFFFFF8FF = op.setWidth 32 ↔ (w.setWidth 8 : Byte) = op ∧ w.extractLsb' 11 21 = 0 := by
  have hopKept := setWidth_and_kept w 0xFFFFF8FF (by decide)
  have hzeroKept := extractLsb'_and_kept w 0xFFFFF8FF 11 21 (by decide)
  constructor
  · intro h
    rw [← hopKept, ← hzeroKept, h]
    exact ⟨opcode_word_opcode op, opcode_word_field op 11 21 (by decide)⟩
  · rintro ⟨hop, hzero⟩
    apply eq_of_fieldsM
    · rw [hopKept, hop, opcode_word_opcode]
    · rw [extractLsb'_and_cleared w _ 8 3 (by decide), opcode_word_field op 8 3 (by decide)]
    · rw [hzeroKept, hzero, opcode_word_field op 11 21 (by decide)]

/-- The row of format K matches its opcode with bits 31:24 and 15:13 all 0 (30_encoding.md R103). -/
theorem matches_formatK (w : Word) (op : Byte) :
    w &&& 0xFF00E0FF = op.setWidth 32 ↔
      (w.setWidth 8 : Byte) = op ∧ w.extractLsb' 24 8 = 0 ∧ w.extractLsb' 13 3 = 0 := by
  have hopKept := setWidth_and_kept w 0xFF00E0FF (by decide)
  have hhighKept := extractLsb'_and_kept w 0xFF00E0FF 24 8 (by decide)
  have hlowKept := extractLsb'_and_kept w 0xFF00E0FF 13 3 (by decide)
  constructor
  · intro h
    rw [← hopKept, ← hhighKept, ← hlowKept, h]
    exact ⟨opcode_word_opcode op, opcode_word_field op 24 8 (by decide), opcode_word_field op 13 3 (by decide)⟩
  · rintro ⟨hop, hhigh, hlow⟩
    apply eq_of_fieldsK
    · rw [hopKept, hop, opcode_word_opcode]
    · rw [extractLsb'_and_cleared w _ 8 5 (by decide), opcode_word_field op 8 5 (by decide)]
    · rw [hlowKept, hlow, opcode_word_field op 13 3 (by decide)]
    · rw [extractLsb'_and_cleared w _ 16 8 (by decide), opcode_word_field op 16 8 (by decide)]
    · rw [hhighKept, hhigh, opcode_word_field op 24 8 (by decide)]

/-! ## Decoding and encoding are inverse -/

/-- The word of a well-formed command matches a row that reads the command back, for every command. -/
theorem encode_matches_row (i : Instr) : Laws.EncodeMatchesRow.Statement i := by
  cases i with
  | nop => exact Laws.EncodeMatchesRow.nop
  | clear => exact Laws.EncodeMatchesRow.clear
  | reset => exact Laws.EncodeMatchesRow.reset
  | rsEncode n k => exact Laws.EncodeMatchesRow.rsEncode n k
  | eccSymbol => exact Laws.EncodeMatchesRow.eccSymbol
  | matFrame => exact Laws.EncodeMatchesRow.matFrame
  | matPlace => exact Laws.EncodeMatchesRow.matPlace
  | matEval m => exact Laws.EncodeMatchesRow.matEval m
  | matMask m => exact Laws.EncodeMatchesRow.matMask m
  | matBuild => exact Laws.EncodeMatchesRow.matBuild
  | pngWrite => exact Laws.EncodeMatchesRow.pngWrite

/-- Settles O1: the row that the command's word matches is the one the decoder takes, and it reads the command back. -/
theorem decodeReadsEncodeBack : Obligations.DecodeReadsEncodeBack := by
  intro i hwf
  obtain ⟨r, hr, hmatch, hread⟩ := encode_matches_row i hwf
  rw [decode_of_match r hr (encode i) hmatch, hread]

/-- Settles O5: each written word is the word of its command, which decodes back. -/
theorem writtenWordsDecode : Obligations.WrittenWordsDecode :=
  ⟨decodeReadsEncodeBack .nop rfl, decodeReadsEncodeBack .reset rfl, decodeReadsEncodeBack (.rsEncode 10 16) rfl,
    decodeReadsEncodeBack (.rsEncode 31 255) rfl, decodeReadsEncodeBack .eccSymbol rfl,
    decodeReadsEncodeBack (.matEval 7) rfl, decodeReadsEncodeBack (.matMask 5) rfl, decodeReadsEncodeBack .pngWrite rfl⟩

/-- The fields of a word of format M spell it (30_encoding.md R102). -/
theorem formatM_spelled (w : Word) (op : Byte) (h : w &&& 0xFFFFF8FF = op.setWidth 32) :
    fieldM w < 8 ∧ BitVec.ofNat 32 (op.toNat + 256 * fieldM w) = w := by
  obtain ⟨hop, hzero⟩ := (matches_formatM w op).mp h
  subst hop
  refine ⟨(w.extractLsb' 8 3).isLt, ?_⟩
  simp only [← BitVec.toNat_inj, fieldM, BitVec.toNat_setWidth, BitVec.extractLsb'_toNat, Nat.shiftRight_eq_div_pow,
    BitVec.ofNat_eq_ofNat, BitVec.toNat_ofNat] at *
  omega

/-- The fields of a word of format K spell it (30_encoding.md R103). -/
theorem formatK_spelled (w : Word) (op : Byte) (h : w &&& 0xFF00E0FF = op.setWidth 32) :
    fieldN w < 32 ∧ fieldK w < 256 ∧ BitVec.ofNat 32 (op.toNat + 256 * fieldN w + 65536 * fieldK w) = w := by
  obtain ⟨hop, hhigh, hlow⟩ := (matches_formatK w op).mp h
  subst hop
  refine ⟨(w.extractLsb' 8 5).isLt, (w.extractLsb' 16 8).isLt, ?_⟩
  simp only [← BitVec.toNat_inj, fieldN, fieldK, BitVec.toNat_setWidth, BitVec.extractLsb'_toNat,
    Nat.shiftRight_eq_div_pow, BitVec.ofNat_eq_ofNat, BitVec.toNat_ofNat] at *
  omega

/-- The command `i` is one a word can spell, and `w` is its word. -/
def spells (w : Word) (i : Instr) : Prop := i.wellFormed = true ∧ encode i = w

/-- A command without fields is spelled by its row's pattern alone. -/
theorem spells_formatZ (w : Word) (i : Instr) (hwf : i.wellFormed = true) (h : w &&& 0xFFFFFFFF = encode i) :
    spells w i :=
  ⟨hwf, h.symm.trans (and_maskZ w)⟩

theorem spells_rsEncode (w : Word) (h : w &&& 0xFF00E0FF = 0x10) : spells w (.rsEncode (fieldN w) (fieldK w)) := by
  obtain ⟨hn, hk, hw⟩ := formatK_spelled w 0x10 h
  exact ⟨by simp [Instr.wellFormed, hn, hk], hw⟩

theorem spells_matEval (w : Word) (h : w &&& 0xFFFFF8FF = 0x22) : spells w (.matEval (fieldM w)) := by
  obtain ⟨hm, hw⟩ := formatM_spelled w 0x22 h
  exact ⟨by simp [Instr.wellFormed, hm], hw⟩

theorem spells_matMask (w : Word) (h : w &&& 0xFFFFF8FF = 0x23) : spells w (.matMask (fieldM w)) := by
  obtain ⟨hm, hw⟩ := formatM_spelled w 0x23 h
  exact ⟨by simp [Instr.wellFormed, hm], hw⟩

/-- What a row reads from a word it matches is the command the word spells, row by row (30_encoding.md R105). -/
theorem spells_of_match (w : Word) : ∀ r ∈ opcodeTable, w &&& r.mask = r.pattern → spells w (r.read w) := by
  simp only [opcodeTable, List.forall_mem_cons]
  exact ⟨spells_formatZ w .nop rfl, spells_formatZ w .clear rfl, spells_formatZ w .reset rfl, spells_rsEncode w,
    spells_formatZ w .eccSymbol rfl, spells_formatZ w .matFrame rfl, spells_formatZ w .matPlace rfl, spells_matEval w,
    spells_matMask w, spells_formatZ w .matBuild rfl, spells_formatZ w .pngWrite rfl, by simp⟩

/-- Settles O2: the word spells the command that the row it matches reads. -/
theorem encodeGivesDecodedWordBack : Obligations.EncodeGivesDecodedWordBack := by
  intro w i h
  obtain ⟨r, hr, hmatch, rfl⟩ := match_of_decode w i h
  exact spells_of_match w r hr hmatch

/-! ## The illegal words -/

/-- The opcodes of format Z (30_encoding.md R101, R105). -/
def opcodesZ : List Byte := [0x00, 0x01, 0x02, 0x11, 0x20, 0x21, 0x24, 0x30]

/-- The opcodes of format M (30_encoding.md R102, R105). -/
def opcodesM : List Byte := [0x22, 0x23]

/-- All opcodes, in the order of the map (30_encoding.md R105). -/
def opcodes : List Byte := [0x00, 0x01, 0x02, 0x10, 0x11, 0x20, 0x21, 0x22, 0x23, 0x24, 0x30]

theorem opcodes_eq : opcodes = opcodeTable.map fun r => r.pattern.setWidth 8 := rfl

/-- No opcode has two formats. -/
theorem opcode_one_format :
    (∀ op ∈ opcodesZ, op ∉ opcodesM ∧ op ≠ 0x10) ∧ ∀ op ∈ opcodesM, op ∉ opcodesZ ∧ op ≠ 0x10 := by
  decide

/-- The bits of `w` that the format of the opcode `op` reserves are all 0 (30_encoding.md R101 to R103). -/
def reservedZero (op : Byte) (w : Word) : Prop :=
  (op ∈ opcodesZ → w.extractLsb' 8 24 = 0) ∧ (op ∈ opcodesM → w.extractLsb' 11 21 = 0) ∧
    (op = 0x10 → w.extractLsb' 24 8 = 0 ∧ w.extractLsb' 13 3 = 0)

theorem matches_opcodeZ (w : Word) (op : Byte) (h : op ∈ opcodesZ) :
    w &&& 0xFFFFFFFF = op.setWidth 32 ↔ (w.setWidth 8 : Byte) = op ∧ reservedZero op w := by
  obtain ⟨hM, hK⟩ := opcode_one_format.1 op h
  rw [matches_formatZ, reservedZero]
  tauto

theorem matches_opcodeM (w : Word) (op : Byte) (h : op ∈ opcodesM) :
    w &&& 0xFFFFF8FF = op.setWidth 32 ↔ (w.setWidth 8 : Byte) = op ∧ reservedZero op w := by
  obtain ⟨hZ, hK⟩ := opcode_one_format.2 op h
  rw [matches_formatM, reservedZero]
  tauto

theorem matches_opcodeK (w : Word) :
    w &&& 0xFF00E0FF = 0x10 ↔ (w.setWidth 8 : Byte) = 0x10 ∧ reservedZero 0x10 w := by
  rw [show (0x10 : Word) = (0x10 : Byte).setWidth 32 from rfl, matches_formatK]
  simp [reservedZero, opcodesZ, opcodesM]

/-- A row matches a word when the word has the row's opcode and the bits its format reserves are all 0
(30_encoding.md R105). -/
theorem match_iff (w : Word) : ∀ r ∈ opcodeTable,
    (w &&& r.mask = r.pattern ↔
      (w.setWidth 8 : Byte) = r.pattern.setWidth 8 ∧ reservedZero (r.pattern.setWidth 8) w) := by
  simp only [opcodeTable, List.forall_mem_cons]
  exact ⟨matches_opcodeZ w 0x00 (by decide), matches_opcodeZ w 0x01 (by decide), matches_opcodeZ w 0x02 (by decide),
    matches_opcodeK w, matches_opcodeZ w 0x11 (by decide), matches_opcodeZ w 0x20 (by decide),
    matches_opcodeZ w 0x21 (by decide), matches_opcodeM w 0x22 (by decide), matches_opcodeM w 0x23 (by decide),
    matches_opcodeZ w 0x24 (by decide), matches_opcodeZ w 0x30 (by decide), by simp⟩

/-- The legal words: bits 7:0 are an opcode and the bits its format reserves are all 0 (30_encoding.md R107). -/
theorem exists_match_iff (w : Word) :
    (∃ r ∈ opcodeTable, w &&& r.mask = r.pattern) ↔
      (w.setWidth 8 : Byte) ∈ opcodes ∧ reservedZero (w.setWidth 8) w := by
  rw [opcodes_eq, List.mem_map]
  constructor
  · rintro ⟨r, hr, h⟩
    obtain ⟨hop, hres⟩ := (match_iff w r hr).mp h
    exact ⟨⟨r, hr, hop.symm⟩, hop ▸ hres⟩
  · rintro ⟨⟨r, hr, hop⟩, hres⟩
    exact ⟨r, hr, (match_iff w r hr).mpr ⟨hop.symm, hop ▸ hres⟩⟩

/-- The illegal words: bits 7:0 are no opcode, or the opcode's format reserves a bit that is 1 (30_encoding.md R107). -/
theorem decode_error_iff_reserved (w : Word) :
    (∃ e, decode w = .error e) ↔ (w.setWidth 8 : Byte) ∉ opcodes ∨
      ((w.setWidth 8 : Byte) ∈ opcodesZ ∧ w.extractLsb' 8 24 ≠ 0) ∨
      ((w.setWidth 8 : Byte) ∈ opcodesM ∧ w.extractLsb' 11 21 ≠ 0) ∨
      ((w.setWidth 8 : Byte) = 0x10 ∧ (w.extractLsb' 24 8 ≠ 0 ∨ w.extractLsb' 13 3 ≠ 0)) := by
  rw [decode_error_iff, exists_match_iff, reservedZero]
  tauto

/-- An illegal word fails with UnexpectedInput when RESULT is 0 (30_encoding.md R107). -/
theorem coreStep_illegal_fails (s : State) (e : DecodeError) (hb : s.busy = true) (he : decode s.pending = .error e)
    (hr : s.result = 0) : coreStep s = .next (markDone (fail .unexpectedInput s)) := by
  rw [coreStep_busy s hb, complete_illegal s e he, runCommand_fails _ _ s .unexpectedInput hr rfl, mapNext]

/-- An illegal word is skipped when RESULT is not 0 (40_system_commands.md R134). -/
theorem coreStep_illegal_skipped (s : State) (e : DecodeError) (hb : s.busy = true) (he : decode s.pending = .error e)
    (hr : s.result ≠ 0) : coreStep s = .next (markDone s) := by
  rw [coreStep_busy s hb, complete_illegal s e he, runCommand_skipped _ _ s hr, mapNext]

/-- One word for each way of being illegal: no opcode, then a reserved bit of format Z, of M and of K (30_encoding.md
R107's examples). -/
theorem example_words_illegal :
    ∀ w ∈ [(0x00000003 : Word), 0x00000100, 0x00000822, 0x00012010], ∃ e, decode w = .error e := by
  simp only [decode_error_iff_reserved, List.forall_mem_cons]
  exact ⟨.inl (by decide), .inr (.inl (by decide)), .inr (.inr (.inl (by decide))), .inr (.inr (.inr (by decide))),
    by simp⟩

/-- CMD stands at 0x10 (10_state.md R24). -/
theorem regAt_cmd : regAt (0x10 : BitVec 18).toNat = some .cmd := by
  decide

/-- A CMD write while BUSY is 0 is accepted, whatever the word (40_system_commands.md R130). -/
theorem portAccess_cmd (s : State) (w : Word) (hb : s.busy = false) :
    portAccess (.write32 0x10 w) s = (.ok, accept w s) :=
  portAccess_write32 0x10 w s (accept w s) .cmd hb regAt_cmd rfl

/-- What a completion that fails leaves, for a failure of any kind (40_system_commands.md R131, R135). Stated for a
variable kind, so that no proof computes a kind's code. -/
theorem markDone_fail (k : ResultKind) (s : State) (rest : List Event) :
    markDone (fail k { s with inputs := rest }) =
      { s with inputs := rest, result := k.image, errcmd := s.pending, busy := false, done := true } :=
  rfl

/-- Settles O4: the illegal words by low byte and reserved bits; the write to CMD; then the core's step on them. -/
theorem illegalWordsFail : Obligations.IllegalWordsFail := by
  refine ⟨decode_error_iff_reserved, example_words_illegal, portAccess_cmd, fun s rest e hb hnext he => ?_⟩
  rw [step_coreNext s rest hnext]
  split
  case isTrue hr =>
    rw [coreStep_illegal_fails { s with inputs := rest } e hb he hr, markDone_fail]
  case isFalse hr => exact coreStep_illegal_skipped { s with inputs := rest } e hb he hr

end Sys2Proof.Machine
end

section
/-! SUPPORT. Host accesses while a command is pending (40_system_commands.md R140): what each access can do to the state, and
that HAZ is read by no command. -/

namespace Sys2Proof.Machine

/-! ## What an access can do to the state -/

/-- What one access can leave: the state as it was; HAZ raised or an unspecified byte drawn while BUSY is 1; a register or a
byte written while BUSY is 0 (20_memory.md R71 to R75, 40_system_commands.md R140). -/
theorem portAccess_cases (acc : Access) (s : State) :
    (portAccess acc s).2 = s ∨
      (s.busy = true ∧
        ((portAccess acc s).2 = raiseHazard s ∨ (portAccess acc s).2 = { s with draws := s.draws + 1 })) ∨
      (s.busy = false ∧ ((∃ v r, writeReg v s r = some (portAccess acc s).2) ∨
        ∃ a v, (portAccess acc s).2 = storeBytes a [v] s)) := by
  cases acc with
  | read32 a => exact .inl rfl
  | write32 a v =>
    simp only [portAccess, hostWrite32]
    cases hw : (regAt a.toNat).bind (writeReg v s) with
    | none => exact .inl rfl
    | some t =>
      obtain ⟨r, -, hr⟩ := Option.bind_eq_some_iff.mp hw
      cases hb : s.busy with
      | true => exact .inr (.inl ⟨rfl, .inl rfl⟩)
      | false => exact .inr (.inr ⟨rfl, .inl ⟨v, r, hr⟩⟩)
  | read8 a =>
    simp only [portAccess, hostRead8]
    cases byteExists a.toNat with
    | false => exact .inl rfl
    | true =>
      cases hb : s.busy with
      | true => exact .inr (.inl ⟨rfl, .inr rfl⟩)
      | false => exact .inl rfl
  | write8 a v =>
    simp only [portAccess, hostWrite8]
    cases byteWritable a.toNat with
    | false => exact .inl rfl
    | true =>
      cases hb : s.busy with
      | true => exact .inr (.inl ⟨rfl, .inl rfl⟩)
      | false => exact .inr (.inr ⟨rfl, .inr ⟨a.toNat, v, rfl⟩⟩)

/-- A register write touches neither HAZ (10_state.md R24) nor the schedule and the response log (logs 1 and 9). -/
theorem writeReg_keeps (v : Word) (s t : State) (r : Reg) (h : writeReg v s r = some t) :
    t.haz = s.haz ∧ t.inputs = s.inputs ∧ t.responses = s.responses := by
  cases r with
  | ctrl | version | level | rsSrc | rsDst | colorR | colorG | colorB | cmd =>
    obtain rfl := Option.some.inj h
    exact ⟨rfl, rfl, rfl⟩
  | _ => exact nomatch h

/-- No access clears HAZ (40_system_commands.md R140). -/
theorem portAccess_keeps_haz (acc : Access) (s : State) (h : s.haz = true) : (portAccess acc s).2.haz = true := by
  rcases portAccess_cases acc s with hs | ⟨-, hs | hs⟩ | ⟨-, ⟨v, r, hs⟩ | ⟨a, v, hs⟩⟩
  · rw [hs, h]
  · rw [hs, raiseHazard_haz]
  · rw [hs, h]
  · obtain ⟨hhaz, -⟩ := writeReg_keeps v s _ r hs
    exact hhaz.trans h
  · rw [hs, storeBytes_haz, h]

/-- No access changes the events to come, and none but its own response is logged (logs 1 and 9). -/
theorem portAccess_keeps_logs (acc : Access) (s : State) :
    (portAccess acc s).2.inputs = s.inputs ∧ (portAccess acc s).2.responses = s.responses := by
  rcases portAccess_cases acc s with hs | ⟨-, hs | hs⟩ | ⟨-, ⟨v, r, hs⟩ | ⟨a, v, hs⟩⟩
  · rw [hs]; exact ⟨rfl, rfl⟩
  · rw [hs]; exact ⟨rfl, rfl⟩
  · rw [hs]; exact ⟨rfl, rfl⟩
  · obtain ⟨-, hlogs⟩ := writeReg_keeps v s _ r hs
    exact hlogs
  · rw [hs]; exact ⟨rfl, rfl⟩

/-- The command stays pending under the host's accesses (40_system_commands.md R131). -/
theorem portAccess_keeps_busy (acc : Access) (s : State) (h : s.busy = true) : (portAccess acc s).2.busy = true := by
  rcases portAccess_cases acc s with hs | ⟨-, hs | hs⟩ | ⟨hidle, -⟩
  · rw [hs, h]
  · rw [hs, raiseHazard_busy, h]
  · rw [hs, h]
  · exact absurd (h.symm.trans hidle) (by decide)

/-! ## Discarded writes -/

/-- `writable_offsets` for every address: beyond OLEN no register stands (10_state.md R24, R47). -/
theorem writable_addresses (a : Nat) :
    (∀ r ∈ regAt a, regAccess r = .ro) ↔ a ∉ [0x04, 0x10, 0x18, 0x1C, 0x20, 0x24, 0x28, 0x2C, 0x30] := by
  by_cases h : a < 0x65
  · exact writable_offsets a h
  · simp [regAt_beyond a (by omega)]
    omega

/-- A 32-bit write while BUSY is 1 where the host may write is discarded, and sets HAZ (40_system_commands.md R140). -/
theorem hostWrite32_discarded (a : Nat) (v : Word) (s : State) (hb : s.busy = true)
    (h : ¬∀ r ∈ regAt a, regAccess r = .ro) : hostWrite32 a v s = (.ok, raiseHazard s) := by
  unfold hostWrite32
  cases hw : (regAt a).bind (writeReg v s) with
  | none =>
    refine absurd (fun r hr => ?_) h
    exact (writeReg_eq_none v s r).mp (Option.bind_eq_none_iff.mp hw r hr)
  | some t => simp [hb]

/-- An 8-bit write while BUSY is 1 to DBUF or EBUF is discarded, and sets HAZ (40_system_commands.md R140). -/
theorem hostWrite8_discarded (a : Nat) (v : Byte) (s : State) (hb : s.busy = true) (h : byteWritable a = true) :
    hostWrite8 a v s = (.ok, raiseHazard s) := by
  simp [hostWrite8, h, hb]

/-- The response and the state of a 32-bit write that gets ERR (20_memory.md R72). -/
theorem hostWrite32_err (a : Nat) (v : Word) (s : State) (h : ∀ r ∈ regAt a, regAccess r = .ro) :
    hostWrite32 a v s = (.err, s) :=
  have herr := (hostWrite32_eq_err a v s).mpr h
  Prod.ext herr (hostWrite32_state_of_err a v s herr)

/-- The response and the state of an 8-bit write that gets ERR (20_memory.md R74). -/
theorem hostWrite8_err (a : Nat) (v : Byte) (s : State) (h : byteWritable a = false) : hostWrite8 a v s = (.err, s) :=
  have herr := (hostWrite8_eq_err a v s).mpr h
  Prod.ext herr (hostWrite8_state_of_err a v s herr)

/-- Every 32-bit write while BUSY is 1. -/
theorem portAccess_write32_busy (s : State) (a : BitVec 18) (v : Word) (hb : s.busy = true) :
    portAccess (.write32 a v) s =
      if a.toNat ∈ [0x04, 0x10, 0x18, 0x1C, 0x20, 0x24, 0x28, 0x2C, 0x30] then (.ok, { s with haz := true })
      else (.err, s) := by
  have hwritable := writable_addresses a.toNat
  split
  case isTrue hin => exact hostWrite32_discarded a.toNat v s hb fun hro => hwritable.mp hro hin
  case isFalse hout => exact hostWrite32_err a.toNat v s (hwritable.mpr hout)

/-- Every 8-bit write while BUSY is 1. -/
theorem portAccess_write8_busy (s : State) (a : BitVec 18) (v : Byte) (hb : s.busy = true) :
    portAccess (.write8 a v) s =
      if 0x01000 ≤ a.toNat ∧ a.toNat < 0x03000 then (.ok, { s with haz := true }) else (.err, s) := by
  have hwritable := byteWritable_iff a.toNat
  split
  case isTrue hin => exact hostWrite8_discarded a.toNat v s hb (hwritable.mpr (by omega))
  case isFalse hout => exact hostWrite8_err a.toNat v s (Bool.eq_false_iff.mpr fun h => by have := hwritable.mp h; omega)

/-! ## HAZ has no effect on a command -/

/-- HAZ put in. -/
def withHaz (h : Bool) (s : State) : State := { s with haz := h }

theorem versionOperand_withHaz (h : Bool) (s : State) : (withHaz h s).versionOperand = s.versionOperand := rfl

theorem frameWrites_withHaz (h : Bool) (s : State) : frameWrites (withHaz h s) = withHaz h (frameWrites s) := by
  unfold frameWrites
  rw [versionOperand_withHaz]
  rfl

theorem placedCodewords_withHaz (h : Bool) (s : State) : (withHaz h s).placedCodewords = s.placedCodewords := rfl

theorem placeWrites_withHaz (h : Bool) (s : State) : placeWrites (withHaz h s) = withHaz h (placeWrites s) := by
  unfold placeWrites
  rw [placedCodewords_withHaz]
  rfl

theorem candidatePenalty_withHaz (h : Bool) (m : Nat) (s : State) :
    (withHaz h s).candidatePenalty m = s.candidatePenalty m := rfl

theorem evalWrites_withHaz (h : Bool) (m : Nat) (s : State) : evalWrites m (withHaz h s) = withHaz h (evalWrites m s) := by
  rw [evalWrites, candidatePenalty_withHaz]
  rfl

theorem evalAllWrites_withHaz (h : Bool) (s : State) : evalAllWrites (withHaz h s) = withHaz h (evalAllWrites s) := by
  unfold evalAllWrites
  generalize List.range Config.nMask = l
  induction l generalizing s with
  | nil => rfl
  | cons m l ih => rw [List.foldl_cons, List.foldl_cons, evalWrites_withHaz, ih]

theorem maskWrites_withHaz (h : Bool) (m : Nat) (s : State) : maskWrites m (withHaz h s) = withHaz h (maskWrites m s) := by
  unfold maskWrites
  rw [candidatePenalty_withHaz]
  rfl

/-- The scores MAT_BUILD selects by do not depend on HAZ (42_matrix_builder.md R216). -/
theorem penAt_withHaz (h : Bool) (s : State) (m : Nat) : (withHaz h s).penAt m = s.penAt m := rfl

theorem buildWrites_withHaz (h : Bool) (s : State) : buildWrites (withHaz h s) = withHaz h (buildWrites s) := by
  simp only [buildWrites, frameWrites_withHaz, placeWrites_withHaz, evalAllWrites_withHaz, penAt_withHaz,
    maskWrites_withHaz]

theorem pngBytes_withHaz (h : Bool) (s : State) : (withHaz h s).pngBytes = s.pngBytes := rfl

theorem pngWrites_withHaz (h : Bool) (s : State) : pngWrites (withHaz h s) = withHaz h (pngWrites s) := by
  unfold pngWrites
  rw [pngBytes_withHaz]
  rfl

/-- No command but CLEAR and RESET reads or changes HAZ (40_system_commands.md R140). -/
theorem exec_withHaz (i : Instr) (s : State) (h : Bool) (hclear : i ≠ .clear) (hreset : i ≠ .reset) :
    exec i (withHaz h s) = thenRun (exec i s) fun t => .next (withHaz h t) := by
  cases i with
  | clear => exact absurd rfl hclear
  | reset => exact absurd rfl hreset
  | nop => rw [exec_nop, exec_nop]; exact runCommand_commutes (withHaz h) _ _ s rfl rfl (fun _ => rfl) rfl
  | rsEncode | eccSymbol => exact runCommand_commutes (withHaz h) _ _ s rfl rfl (fun _ => rfl) rfl
  | matFrame => exact runCommand_commutes (withHaz h) _ _ s rfl rfl (fun _ => rfl) (frameWrites_withHaz h s)
  | matPlace => exact runCommand_commutes (withHaz h) _ _ s rfl rfl (fun _ => rfl) (placeWrites_withHaz h s)
  | matEval m => exact runCommand_commutes (withHaz h) _ _ s rfl rfl (fun _ => rfl) (evalWrites_withHaz h m s)
  | matMask m => exact runCommand_commutes (withHaz h) _ _ s rfl rfl (fun _ => rfl) (maskWrites_withHaz h m s)
  | matBuild => exact runCommand_commutes (withHaz h) _ _ s rfl rfl (fun _ => rfl) (buildWrites_withHaz h s)
  | pngWrite => exact runCommand_commutes (withHaz h) _ _ s rfl rfl (fun _ => rfl) (pngWrites_withHaz h s)

/-- Settles O47: the two kinds of write while BUSY is 1, the commands that commute with HAZ, and the accesses that keep it. -/
theorem busyWritesAreDiscarded : Obligations.BusyWritesAreDiscarded :=
  ⟨portAccess_write32_busy, portAccess_write8_busy, exec_withHaz, portAccess_keeps_haz⟩

end Sys2Proof.Machine
end

section
/-! SUPPORT. The life cycle of a command (40_system_commands.md R130 to R136) and the system commands (R137 to R139): what a
completion can leave, said once, and that every step gives a next state. -/

namespace Sys2Proof.Machine

/-! ## What a completion can leave -/

/-- The outcomes of a command other than CLEAR and RESET, as RESULT shows them: skipped, failed with a kind QRSB raises, or
done with RESULT still 0 (40_system_commands.md R134 to R136). -/
def commandOutcome (s t : State) : Prop :=
  (s.result ≠ 0 ∧ t = s) ∨ (s.result = 0 ∧ ∃ k : ResultKind, k.raised ∧ t = fail k s) ∨ (s.result = 0 ∧ t.result = 0)

/-- A command has these outcomes when its check raises only what QRSB can raise and its writes keep RESULT. -/
theorem runCommand_outcome (check : State → Option ResultKind) (writes : State → State) (s t : State)
    (hcheck : ∀ k, check s = some k → k.raised) (hresult : (writes s).result = s.result)
    (h : runCommand check writes s = .next t) : commandOutcome s t := by
  rcases runCommand_cases check writes s t h with ⟨hr, rfl⟩ | ⟨hr, k, hk, rfl⟩ | ⟨hr, -, rfl⟩
  · exact .inl ⟨hr, rfl⟩
  · exact .inr (.inl ⟨hr, k, hcheck k hk, rfl⟩)
  · exact .inr (.inr ⟨hr, hresult.trans hr⟩)

theorem evalAllWrites_result (s : State) : (evalAllWrites s).result = s.result :=
  evalAllWrites_keeps (fun t => t.result = s.result) (fun m t ht => (evalWrites_result m t).trans ht) s rfl

theorem buildWrites_result (s : State) : (buildWrites s).result = s.result := by
  simp [buildWrites, evalAllWrites_result]

/-- Every command but CLEAR and RESET has these outcomes (40_system_commands.md R133). -/
theorem exec_outcome (i : Instr) (s t : State) (hclear : i ≠ .clear) (hreset : i ≠ .reset) (h : exec i s = .next t) :
    commandOutcome s t := by
  cases i with
  | clear => exact absurd rfl hclear
  | reset => exact absurd rfl hreset
  | nop => rw [exec_nop] at h; exact runCommand_outcome _ _ s t (fun k hk => absurd hk (by simp)) rfl h
  | matBuild =>
    exact runCommand_outcome _ _ s t (firstFailure_raised _ (by simp [ResultKind.raised])) (buildWrites_result s) h
  | rsEncode | eccSymbol | matFrame | matPlace | matEval | matMask | pngWrite =>
    exact runCommand_outcome _ _ s t (firstFailure_raised _ (by simp [ResultKind.raised])) (by simp) h

/-- What the completion of a pending word can leave: the words of CLEAR and RESET have their own effect, every other word,
legal or not, has a command's outcomes (40_system_commands.md R133). -/
theorem complete_cases (s t : State) (h : complete s = .next t) :
    (s.pending = encode .clear ∧ t = clearFailure s) ∨ (s.pending = encode .reset ∧ t = softReset s) ∨
      commandOutcome s t := by
  cases hd : decode s.pending with
  | error e =>
    rw [complete_illegal s e hd] at h
    refine .inr (.inr (runCommand_outcome _ _ s t (fun k hk => ?_) rfl h))
    obtain rfl := Option.some.inj hk
    simp [ResultKind.raised]
  | ok i =>
    rw [complete_instr s i hd] at h
    have hword : encode i = s.pending := (encodeGivesDecodedWordBack _ i hd).2
    by_cases hclear : i = .clear
    · subst hclear
      exact .inl ⟨hword.symm, next_inj h⟩
    · by_cases hreset : i = .reset
      · subst hreset
        exact .inr (.inl ⟨hword.symm, next_inj h⟩)
      · exact .inr (.inr (exec_outcome i s t hclear hreset h))

/-! ## Every step gives a next state -/

/-- Every pending word, legal or not, completes (70_reset_and_hazards.md R369). -/
theorem complete_next (s : State) : ∃ t, complete s = .next t := by
  cases hd : decode s.pending with
  | ok i => exact complete_instr s i hd ▸ exec_next i s
  | error e => exact complete_illegal s e hd ▸ runCommand_next _ _ s

/-- With a command pending the core's step marks what the completion leaves as done (40_system_commands.md R131). -/
theorem coreStep_completes (s : State) (hb : s.busy = true) :
    ∃ t, complete s = .next t ∧ coreStep s = .next (markDone t) := by
  obtain ⟨t, ht⟩ := complete_next s
  exact ⟨t, ht, by rw [coreStep_busy s hb, ht, mapNext]⟩

theorem coreStep_next (s : State) : ∃ t, coreStep s = .next t := by
  cases hb : s.busy with
  | false => exact ⟨s, coreStep_idle s hb⟩
  | true =>
    obtain ⟨t, -, ht⟩ := coreStep_completes s hb
    exact ⟨markDone t, ht⟩

theorem handleEvent_next (e : Event) (s : State) : ∃ t, handleEvent e s = .next t := by
  cases e with
  | host acc => exact ⟨hostAccess acc s, rfl⟩
  | core => exact coreStep_next s
  | hardReset => exact ⟨hardReset s, rfl⟩

/-- Settles O11: the step is the core's or an event's, and both give next states. -/
theorem everyStepGivesNextState : Obligations.EveryStepGivesNextState := by
  intro s
  rcases step_cases s with ⟨-, hstep⟩ | ⟨e, rest, -, hstep⟩
  · exact hstep ▸ coreStep_next s
  · exact hstep ▸ handleEvent_next e _

/-! ## Skipped and failed commands -/

/-- With a command pending and the core next, the step marks what the completion leaves as done, on the state with the rest of
the schedule (40_system_commands.md R131; log 1). -/
theorem step_completes (s : State) (rest : List Event) (hb : s.busy = true) (hnext : s.coreNext rest) :
    ∃ t, complete { s with inputs := rest } = .next t ∧ step s = .next (markDone t) := by
  rw [step_coreNext s rest hnext]
  exact coreStep_completes { s with inputs := rest } hb

/-- Settles O9: of what a completion can leave, only the skip fits a RESULT that is not 0 and these words. -/
theorem commandsAreSkippedAfterFailure : Obligations.CommandsAreSkippedAfterFailure := by
  intro s rest hb hnext hresult hclear hreset
  obtain ⟨t, ht, hstep⟩ := step_completes s rest hb hnext
  rcases complete_cases _ t ht with ⟨hw, -⟩ | ⟨hw, -⟩ | ⟨-, rfl⟩ | ⟨hr, -⟩ | ⟨hr, -⟩
  · exact absurd hw hclear
  · exact absurd hw hreset
  · exact hstep
  · exact absurd hr hresult
  · exact absurd hr hresult

/-- STATUS.ERR shows that RESULT is not 0 (10_state.md R32). -/
theorem statusWord_err (s : State) (h : s.result ≠ 0) : (statusWord s).getLsbD 2 = true := by
  obtain ⟨-, -, herr, -⟩ := statusWord_fields s
  rw [herr]
  exact bne_iff_ne.mpr h

/-- Settles O10: of what a completion can leave, only the failure takes RESULT from 0 to another value. -/
theorem failureIsPrecise : Obligations.FailureIsPrecise := by
  intro s t rest hb hnext hzero hstep hresult
  obtain ⟨u, hu, hstep'⟩ := step_completes s rest hb hnext
  obtain rfl : t = markDone u := next_inj (hstep'.symm.trans hstep)
  rcases complete_cases _ u hu with ⟨-, rfl⟩ | ⟨-, rfl⟩ | ⟨hr, -⟩ | ⟨-, k, hk, rfl⟩ | ⟨-, hr⟩
  · exact absurd rfl hresult
  · exact absurd rfl hresult
  · exact absurd hzero hr
  · exact ⟨k, hk, markDone_fail k s rest, statusWord_err _ hresult⟩
  · exact absurd hr hresult

/-! ## The pending command completes -/

/-- A step with the core next is the last of a run that ends with the command completed. -/
theorem stepMany_core (s : State) (rest : List Event) (hb : s.busy = true) (hnext : s.coreNext rest) :
    ∃ t, stepMany 1 s = .next t ∧ t.busy = false ∧ t.done = true := by
  obtain ⟨u, -, hstep⟩ := step_completes s rest hb hnext
  exact ⟨markDone u, by rw [stepMany, hstep]; rfl, rfl, rfl⟩

/-- A host access at the head of the schedule: the port's effect and its response (log 9). -/
theorem step_host (s : State) (acc : Access) (rest : List Event) (h : s.inputs = .host acc :: rest) :
    step s = .next (hostAccess acc { s with inputs := rest }) := by
  simp [step, runSchedule, h, handleEvent]

/-- A hard reset at the head of the schedule (70_reset_and_hazards.md R360). -/
theorem step_hardReset (s : State) (rest : List Event) (h : s.inputs = .hardReset :: rest) :
    step s = .next (hardReset { s with inputs := rest }) := by
  simp [step, runSchedule, h, handleEvent]

/-- With a command pending, BUSY falls within the schedule's length plus 1; and unless a hard reset did it, the command has
completed. By induction on the events before the core's: host accesses leave the command pending. -/
theorem busy_falls (inputs : List Event) : ∀ s : State, s.inputs = inputs → s.busy = true →
    ∃ k t, k ≤ inputs.length + 1 ∧ stepMany k s = .next t ∧ t.busy = false ∧
      (Event.hardReset ∉ inputs → t.done = true) := by
  induction inputs with
  | nil =>
    intro s hs hb
    obtain ⟨t, ht, hbusy, hdone⟩ := stepMany_core s [] hb (.inl ⟨hs, rfl⟩)
    exact ⟨1, t, by simp, ht, hbusy, fun _ => hdone⟩
  | cons e rest ih =>
    intro s hs hb
    cases e with
    | core =>
      obtain ⟨t, ht, hbusy, hdone⟩ := stepMany_core s rest hb (.inr hs)
      exact ⟨1, t, by simp, ht, hbusy, fun _ => hdone⟩
    | hardReset =>
      refine ⟨1, hardReset { s with inputs := rest }, by simp, ?_, rfl, fun hnot => absurd (by simp) hnot⟩
      rw [stepMany, step_hardReset s rest hs]
      rfl
    | host acc =>
      obtain ⟨k, t, hk, ht, hbusy, hdone⟩ := ih (hostAccess acc { s with inputs := rest })
        (portAccess_keeps_logs acc _).1 (portAccess_keeps_busy acc { s with inputs := rest } hb)
      refine ⟨k + 1, t, Nat.succ_le_succ hk, ?_, hbusy, fun hnot => hdone fun hin => hnot (.tail _ hin)⟩
      rw [stepMany, step_host s acc rest hs]
      exact ht

/-- Settles O12, from `busy_falls`. -/
theorem pendingCommandCompletes : Obligations.PendingCommandCompletes := by
  refine ⟨fun s hb hnot => ?_, fun s hb => ?_⟩
  all_goals obtain ⟨k, t, hk, ht, hbusy, hdone⟩ := busy_falls s.inputs s rfl hb
  · exact ⟨k, t, hk, ht, hbusy, hdone hnot⟩
  · exact ⟨k, t, hk, ht, hbusy⟩

/-! ## Acceptance and the steps -/

/-- Settles O6: CMD stands at 0x10, and its write is the acceptance. -/
theorem commandWriteIsAccepted : Obligations.CommandWriteIsAccepted := portAccess_cmd

/-- With a command pending and the core next, the step is the command's meaning, then the end of the completion. -/
theorem step_instr (s : State) (rest : List Event) (i : Instr) (hb : s.busy = true) (hnext : s.coreNext rest)
    (hd : decode s.pending = .ok i) :
    step s = thenRun (exec i { s with inputs := rest }) fun t => .next { t with busy := false, done := true } := by
  rw [step_coreNext s rest hnext, coreStep_busy { s with inputs := rest } hb,
    complete_instr { s with inputs := rest } i hd]
  cases exec i { s with inputs := rest } <;> rfl

/-- Taking nothing off an empty schedule leaves the state as it is. -/
theorem inputs_unchanged (s : State) (l : List Event) (h : s.inputs = l) : ({ s with inputs := l } : State) = s := by
  subst h
  rfl

/-- Settles O7: `step_instr` for the two ways in which the core is next. -/
theorem stepRunsDecodedCommand : Obligations.StepRunsDecodedCommand := by
  intro s i hb hd
  refine ⟨fun hs => ?_, fun rest hs => step_instr s rest i hb (.inr hs) hd⟩
  rw [step_instr s [] i hb (.inl ⟨hs, rfl⟩) hd, inputs_unchanged s [] hs]

/-- Every register has its reset value after a hard reset (70_reset_and_hazards.md R360). -/
theorem readReg_hardReset (s : State) (r : Reg) : readReg (hardReset s) r = readReg State.reset r := by
  cases r <;> rfl

/-- Settles O8, event by event. -/
theorem otherEventsTakeEffect : Obligations.OtherEventsTakeEffect := by
  refine ⟨fun s acc rest hs => ?host, fun s rest hs => ?hardReset, fun s hb hs => ?idle, fun s rest hb hs => ?core⟩
  case host =>
    obtain ⟨-, hlog⟩ := portAccess_keeps_logs acc { s with inputs := rest }
    rw [step_host s acc rest hs, hostAccess, respond, hlog]
  case hardReset =>
    exact ⟨hardReset { s with inputs := rest }, step_hardReset s rest hs, readReg_hardReset _, rfl, rfl, rfl⟩
  case idle =>
    rw [step_coreNext s [] (.inl ⟨hs, rfl⟩), inputs_unchanged s [] hs, coreStep_idle s hb]
  case core =>
    rw [step_coreNext s rest (.inr hs), coreStep_idle { s with inputs := rest } hb]

/-! ## NOP, CLEAR and RESET -/

/-- NOP answers the state as it is, whether it is skipped or done (40_system_commands.md R137). -/
theorem exec_nop_next (s : State) : exec .nop s = .next s := by
  rw [exec_nop]
  by_cases hr : s.result = 0
  · exact runCommand_succeeds _ _ s hr rfl
  · exact runCommand_skipped _ _ s hr

/-- Settles O13: NOP's completion from reset sets DONE and leaves PENDING 0. -/
theorem nopChangesNothing : Obligations.NopChangesNothing := by
  refine ⟨rfl, exec_nop_next, { State.reset with done := true }, ?_, by decide, rfl⟩
  rw [step_instr (State.reset.withFetchWord 32 0) [] .nop rfl (.inr rfl) (decodeReadsEncodeBack .nop rfl), exec_nop_next]
  rfl

/-- CLEAR has one word (40_system_commands.md R138). -/
theorem decode_eq_clear (w : Word) : decode w = .ok .clear ↔ w = 0x00000001 := by
  constructor
  · intro h
    exact (encodeGivesDecodedWordBack w .clear h).2.symm
  · rintro rfl
    exact decodeReadsEncodeBack .clear rfl

/-- CLEAR's opcode with a reserved bit set is no command (30_encoding.md R107, 40_system_commands.md R138). -/
theorem decode_clear_reserved : ∃ e, decode 0x00000101 = .error e :=
  (decode_error_iff_reserved _).mpr (.inr (.inl (by decide)))

/-- Settles O14: the only word of CLEAR is the one it encodes to, and 0x00000101 is skipped as every illegal word is. -/
theorem clearEndsFailedState : Obligations.ClearEndsFailedState := by
  refine ⟨exec_clear, decode_eq_clear, decode_clear_reserved, fun s hresult hpending => ?_⟩
  obtain ⟨e, he⟩ := decode_clear_reserved
  rw [complete_illegal s e (hpending ▸ he)]
  exact runCommand_skipped _ _ s hresult

/-- STATUS after a completed RESET shows DONE alone (40_system_commands.md R139). -/
theorem statusWord_done_softReset (s : State) : statusWord (markDone (softReset s)) = 0x00000002 := by
  simp [statusWord, State.err, Phase.code]

/-- Settles O15: the soft reset's registers, and the step of its word. -/
theorem resetRestoresRegisters : Obligations.ResetRestoresRegisters := by
  refine ⟨rfl, rfl, fun s => ⟨softReset s, exec_reset s, rfl⟩, fun s rest hb hnext hpending => ?_⟩
  have hd : decode s.pending = .ok .reset := hpending ▸ decodeReadsEncodeBack .reset rfl
  refine ⟨markDone (softReset { s with inputs := rest }), step_instr s rest .reset hb hnext hd,
    statusWord_done_softReset _, fun a => byteAt_congr s _ a rfl rfl, rfl⟩

end Sys2Proof.Machine
end

section
/-! SUPPORT. The field GF(256) (41_rs_encoder.md R150 to R153): doubling, the product by x, generates the product, and the
powers of α are the orbit of 1 under it. -/

namespace Sys2Proof.Machine

/-! ## Doubling, the product by x -/

/-- The product by the polynomial x: double, and reduce on a carry (41_rs_encoder.md R152). -/
def gfDouble (p : Byte) : Byte := if p.msb then (p <<< 1) ^^^ Config.gfPolyLow else p <<< 1

/-- One pass of `gmul` is a step of Horner's rule (41_rs_encoder.md R152). -/
theorem gmulPass_eq (a b p : Byte) (i : Nat) :
    gmulPass a b p i = gfDouble p ^^^ (if b.getLsbD i then a else 0) := by
  unfold gmulPass gfDouble
  cases b.getLsbD i <;> simp

theorem gfDouble_eq (p : Byte) : gfDouble p = (p <<< 1) ^^^ (if p.msb then Config.gfPolyLow else 0) := by
  unfold gfDouble
  cases p.msb <;> simp

theorem xor_xor_xor_comm (a b c d : Byte) : (a ^^^ b) ^^^ (c ^^^ d) = (a ^^^ c) ^^^ (b ^^^ d) := by
  ac_rfl

theorem ite_xor_zero (a b : Bool) (c : Byte) :
    (if (a ^^ b) then c else 0) = (if a then c else 0) ^^^ (if b then c else 0) := by
  cases a <;> cases b <;> simp

/-- Doubling is additive: the carry of a sum is the sum of the carries. -/
theorem gfDouble_xor (p q : Byte) : gfDouble (p ^^^ q) = gfDouble p ^^^ gfDouble q := by
  rw [gfDouble_eq, gfDouble_eq, gfDouble_eq, BitVec.msb_xor, BitVec.shiftLeft_xor_distrib, ite_xor_zero, xor_xor_xor_comm]

/-! ## The product -/

/-- A pass is additive in the first factor and the register. -/
theorem gmulPass_xor (a b c p q : Byte) (i : Nat) :
    gmulPass (a ^^^ b) c (p ^^^ q) i = gmulPass a c p i ^^^ gmulPass b c q i := by
  rw [gmulPass_eq, gmulPass_eq, gmulPass_eq, gfDouble_xor, xor_xor_xor_comm]
  cases c.getLsbD i <;> simp

theorem gmul_xor_left (a b c : Byte) : gmul (a ^^^ b) c = gmul a c ^^^ gmul b c := by
  have hloop : ∀ (l : List Nat) (p q : Byte),
      l.foldl (gmulPass (a ^^^ b) c) (p ^^^ q) = l.foldl (gmulPass a c) p ^^^ l.foldl (gmulPass b c) q := by
    intro l
    induction l with
    | nil => exact fun _ _ => rfl
    | cons i l ih =>
      intro p q
      rw [List.foldl_cons, gmulPass_xor]
      exact ih _ _
  simpa [gmul] using hloop [7, 6, 5, 4, 3, 2, 1, 0] 0 0

/-- A map that is additive and commutes with doubling, that is, linear over GF(256), can be moved into a product. -/
theorem linear_gmul (f : Byte → Byte) (hadd : ∀ x y, f (x ^^^ y) = f x ^^^ f y)
    (hdouble : ∀ x, f (gfDouble x) = gfDouble (f x)) (a b : Byte) : f (gmul a b) = gmul (f a) b := by
  have hzero : f 0 = 0 := by simpa using hadd 0 0
  have hloop : ∀ (l : List Nat) (p : Byte), f (l.foldl (gmulPass a b) p) = l.foldl (gmulPass (f a) b) (f p) := by
    intro l
    induction l with
    | nil => exact fun _ => rfl
    | cons i l ih =>
      intro p
      rw [List.foldl_cons, List.foldl_cons, ih, gmulPass_eq, gmulPass_eq, hadd, hdouble, apply_ite f, hzero]
  have hall := hloop [7, 6, 5, 4, 3, 2, 1, 0] 0
  rwa [hzero] at hall

theorem gfDouble_gmul (a b : Byte) : gfDouble (gmul a b) = gmul (gfDouble a) b :=
  linear_gmul gfDouble gfDouble_xor (fun _ => rfl) a b

/-- The passes over the bits of `b` with 1 spell `b`. -/
theorem one_gmul : ∀ b : Byte, gmul 1 b = b := by
  decide +kernel

/-- Both sides are linear in `a` and agree at 1. -/
theorem gmul_comm (a b : Byte) : gmul a b = gmul b a :=
  calc gmul a b = gmul (gmul 1 a) b := by rw [one_gmul]
    _ = gmul (gmul 1 b) a :=
      linear_gmul (fun x => gmul x b) (fun x y => gmul_xor_left x y b) (fun x => (gfDouble_gmul x b).symm) 1 a
    _ = gmul b a := by rw [one_gmul]

theorem gmul_xor_right (a b c : Byte) : gmul a (b ^^^ c) = gmul a b ^^^ gmul a c := by
  rw [gmul_comm a, gmul_xor_left, gmul_comm b, gmul_comm c]

theorem gmul_gfDouble (a b : Byte) : gmul a (gfDouble b) = gfDouble (gmul a b) := by
  rw [gmul_comm, ← gfDouble_gmul, gmul_comm]

/-- The product by `a` is linear. -/
theorem gmul_assoc (a b c : Byte) : gmul (gmul a b) c = gmul a (gmul b c) :=
  (linear_gmul (gmul a) (gmul_xor_right a) (gmul_gfDouble a) b c).symm

theorem gmul_one (a : Byte) : gmul a 1 = a := by
  rw [gmul_comm, one_gmul]

theorem gmul_zero (a : Byte) : gmul a 0 = 0 := by
  simpa using gmul_xor_right a 0 0

theorem zero_gmul (a : Byte) : gmul 0 a = 0 := by
  rw [gmul_comm, gmul_zero]

/-! ## The powers of α -/

/-- α is the polynomial x (41_rs_encoder.md R153). -/
theorem gmul_alpha (a : Byte) : gmul a Config.gfAlpha = gfDouble a := by
  have hα : Config.gfAlpha = gfDouble 1 := by decide
  rw [hα, gmul_gfDouble, gmul_one]

theorem expAlpha_eq_iterate (i : Nat) : expAlpha i = gfDouble^[i] 1 := by
  induction i with
  | zero => rfl
  | succ i ih => rw [expAlpha, gmul_alpha, ih, Function.iterate_succ_apply']

theorem gmul_expAlpha (i j : Nat) : gmul (expAlpha i) (expAlpha j) = expAlpha (i + j) := by
  induction j with
  | zero => exact gmul_one _
  | succ j ih => rw [← Nat.add_assoc, expAlpha, expAlpha, ← gmul_assoc, ih]

theorem expAlpha_period : expAlpha 255 = 1 := by
  decide +kernel

/-- The orbit of 1 under doubling has length 255 = 3·5·17: the powers 85, 51 and 15 of α are not 1, so no proper divisor
of 255 is a period (41_rs_encoder.md R153). -/
theorem minimalPeriod_gfDouble : Function.minimalPeriod gfDouble 1 = 255 := by
  have hperiod : ∀ k, Function.minimalPeriod gfDouble 1 ∣ k ↔ expAlpha k = 1 := fun k => by
    rw [expAlpha_eq_iterate]
    exact Function.isPeriodicPt_iff_minimalPeriod_dvd.symm
  have h3 : ¬ Function.minimalPeriod gfDouble 1 ∣ 85 := by rw [hperiod]; decide +kernel
  have h5 : ¬ Function.minimalPeriod gfDouble 1 ∣ 51 := by rw [hperiod]; decide +kernel
  have h17 : ¬ Function.minimalPeriod gfDouble 1 ∣ 15 := by rw [hperiod]; decide +kernel
  have hdivisors : ∀ m ∈ Nat.divisors 255, ¬ m ∣ 85 → ¬ m ∣ 51 → ¬ m ∣ 15 → m = 255 := by decide +kernel
  exact hdivisors _ (Nat.mem_divisors.mpr ⟨(hperiod 255).mpr expAlpha_period, by decide⟩) h3 h5 h17

theorem expAlpha_injective (i j : Nat) (hi : i < 255) (hj : j < 255) (h : expAlpha i = expAlpha j) : i = j := by
  rw [expAlpha_eq_iterate, expAlpha_eq_iterate] at h
  refine Function.iterate_injOn_Iio_minimalPeriod ?_ ?_ h
  · rwa [minimalPeriod_gfDouble]
  · rwa [minimalPeriod_gfDouble]

theorem expAlpha_mod (i : Nat) : expAlpha (i % 255) = expAlpha i := by
  rw [expAlpha_eq_iterate, expAlpha_eq_iterate, ← minimalPeriod_gfDouble, Function.iterate_mod_minimalPeriod_eq]

theorem expAlpha_ne_zero (i : Nat) : expAlpha i ≠ 0 := by
  intro h
  have hone : gmul (expAlpha i) (expAlpha (254 * i)) = 1 := by
    rw [gmul_expAlpha, ← expAlpha_mod, show (i + 254 * i) % 255 = 0 by omega]
    rfl
  rw [h, zero_gmul] at hone
  exact absurd hone (by decide)

theorem card_byte : Fintype.card Byte = 256 :=
  FinEnum.card_eq_fintypeCard.symm.trans (FinEnum.card_bitVec 8)

/-- The 255 powers are different and not 0, and there are 255 elements that are not 0. -/
theorem exists_expAlpha_eq (e : Byte) (he : e ≠ 0) : ∃ i < 255, expAlpha i = e := by
  have hsub : (Finset.range 255).image expAlpha ⊆ Finset.univ.erase 0 := fun x hx => by
    obtain ⟨i, -, rfl⟩ := Finset.mem_image.mp hx
    exact Finset.mem_erase.mpr ⟨expAlpha_ne_zero i, Finset.mem_univ _⟩
  have hcard : ((Finset.range 255).image expAlpha).card = 255 := by
    rw [Finset.card_image_of_injOn, Finset.card_range]
    exact fun i hi j hj => expAlpha_injective i j (by simpa using hi) (by simpa using hj)
  have hall : (Finset.range 255).image expAlpha = Finset.univ.erase 0 := by
    refine Finset.eq_of_subset_of_card_le hsub ?_
    rw [hcard, Finset.card_erase_of_mem (Finset.mem_univ _), Finset.card_univ, card_byte]
  simpa using hall.ge (Finset.mem_erase.mpr ⟨he, Finset.mem_univ e⟩)

/-- What LOG answers (41_rs_encoder.md R153). -/
theorem expAlpha_of_logAlpha (e : Byte) (i : Nat) (h : logAlpha e = some i) : i < 255 ∧ expAlpha i = e :=
  ⟨List.mem_range.mp (List.mem_of_find?_eq_some h), by simpa using List.find?_some h⟩

theorem exists_logAlpha (e : Byte) (he : e ≠ 0) : ∃ i, logAlpha e = some i := by
  obtain ⟨i, hi, rfl⟩ := exists_expAlpha_eq e he
  exact Option.isSome_iff_exists.mp (List.find?_isSome.mpr ⟨i, List.mem_range.mpr hi, by simp⟩)

/-- The inverse of α^i is α^(255-i). -/
theorem exists_inverse (a : Byte) (ha : a ≠ 0) : ∃ b, gmul a b = 1 := by
  obtain ⟨i, hi, rfl⟩ := exists_expAlpha_eq a ha
  refine ⟨expAlpha (255 - i), ?_⟩
  rw [gmul_expAlpha, Nat.add_sub_cancel' hi.le, expAlpha_period]

/-- Settles O16: the product is the one linear map that takes 1 to its factor, and inverses are powers of α. -/
theorem galoisFieldLaws : Obligations.GaloisFieldLaws :=
  ⟨gmul_comm, gmul_assoc, gmul_xor_right, fun a => ⟨zero_gmul a, one_gmul a⟩, exists_inverse⟩

/-- Settles O17: α has order 255. -/
theorem powersOfAlphaGiveProducts : Obligations.PowersOfAlphaGiveProducts := by
  refine ⟨expAlpha_injective, fun e he => ?log, expAlpha_period, fun a b i j ha hb => ?product⟩
  case log =>
    obtain ⟨i, hi⟩ := exists_logAlpha e he
    obtain ⟨hlt, hexp⟩ := expAlpha_of_logAlpha e i hi
    exact ⟨i, hlt, hi, hexp⟩
  case product =>
    obtain ⟨-, rfl⟩ := expAlpha_of_logAlpha a i ha
    obtain ⟨-, rfl⟩ := expAlpha_of_logAlpha b j hb
    rw [gmul_expAlpha, expAlpha_mod]

end Sys2Proof.Machine
end

section
/-! SUPPORT. Polynomials over GF(256) as lists, highest power first, and the code of one block: the generator polynomial
and RSENC (41_rs_encoder.md R154 to R157). -/

namespace Sys2Proof.Machine

/-! ## Sums of polynomials -/

theorem byte_xor_zero (a : Byte) : a ^^^ 0 = a := BitVec.xor_zero

/-- The sum of two polynomials of as many coefficients (41_rs_encoder.md R151). -/
def polyAdd (p q : List Byte) : List Byte := List.zipWith (fun a b => a ^^^ b) p q

@[simp] theorem polyAdd_nil_left (p : List Byte) : polyAdd [] p = [] := rfl

@[simp] theorem polyAdd_nil_right (p : List Byte) : polyAdd p [] = [] := List.zipWith_nil_right

@[simp] theorem polyAdd_cons (a b : Byte) (p q : List Byte) : polyAdd (a :: p) (b :: q) = (a ^^^ b) :: polyAdd p q := rfl

@[simp] theorem polyAdd_length (p q : List Byte) : (polyAdd p q).length = min p.length q.length := List.length_zipWith

theorem polyAdd_comm (p q : List Byte) : polyAdd p q = polyAdd q p :=
  List.zipWith_comm_of_comm BitVec.xor_comm

theorem polyAdd_assoc (p q r : List Byte) : polyAdd (polyAdd p q) r = polyAdd p (polyAdd q r) := by
  induction p generalizing q r with
  | nil => rfl
  | cons a p ih => cases q <;> cases r <;> simp [ih, BitVec.xor_assoc]

theorem polyAdd_polyAdd_comm (p q r s : List Byte) :
    polyAdd (polyAdd p q) (polyAdd r s) = polyAdd (polyAdd p r) (polyAdd q s) := by
  rw [polyAdd_assoc, ← polyAdd_assoc q, polyAdd_comm q r, polyAdd_assoc r, ← polyAdd_assoc]

theorem polyAdd_append (p q r s : List Byte) (h : p.length = q.length) :
    polyAdd (p ++ r) (q ++ s) = polyAdd p q ++ polyAdd r s :=
  List.zipWith_append h

theorem polyAdd_zeros (p : List Byte) : polyAdd p (List.replicate p.length 0) = p := by
  induction p with
  | nil => rfl
  | cons a p ih => rw [List.length_cons, List.replicate_succ, polyAdd_cons, ih, byte_xor_zero]

theorem zeros_polyAdd_zeros (n : Nat) : polyAdd (List.replicate n 0) (List.replicate n 0) = List.replicate n 0 := by
  simpa using polyAdd_zeros (List.replicate n 0)

theorem polyAdd_tail (p q : List Byte) : (polyAdd p q).tail = polyAdd p.tail q.tail := by
  cases p <;> cases q <;> simp

theorem polyAdd_headD (p q : List Byte) (h : p.length = q.length) :
    (polyAdd p q).headD 0 = p.headD 0 ^^^ q.headD 0 := by
  cases p <;> cases q <;> simp at h ⊢

/-! ## Values of polynomials -/

/-- One step of Horner's rule, by which `polyEval` goes. -/
def hornerPass (x acc c : Byte) : Byte := gmul acc x ^^^ c

theorem polyEval_eq (p : List Byte) (x : Byte) : polyEval p x = p.foldl (hornerPass x) 0 := rfl

theorem polyEval_concat (p : List Byte) (c x : Byte) : polyEval (p ++ [c]) x = gmul (polyEval p x) x ^^^ c := by
  rw [polyEval_eq, List.foldl_concat]
  rfl

theorem polyEval_zero_cons (p : List Byte) (x : Byte) : polyEval (0 :: p) x = polyEval p x := by
  rw [polyEval_eq, List.foldl_cons, hornerPass, zero_gmul]
  rfl

theorem hornerPass_xor (x a b c d : Byte) : hornerPass x (a ^^^ b) (c ^^^ d) = hornerPass x a c ^^^ hornerPass x b d := by
  rw [hornerPass, gmul_xor_left, xor_xor_xor_comm]
  rfl

theorem foldl_hornerPass_polyAdd (p q : List Byte) (x a b : Byte) (h : p.length = q.length) :
    (polyAdd p q).foldl (hornerPass x) (a ^^^ b) = p.foldl (hornerPass x) a ^^^ q.foldl (hornerPass x) b := by
  induction p generalizing q a b with
  | nil => rw [List.eq_nil_of_length_eq_zero h.symm]; rfl
  | cons c p ih =>
    obtain ⟨d, q, rfl⟩ := List.exists_cons_of_length_eq_add_one h.symm
    rw [polyAdd_cons, List.foldl_cons, hornerPass_xor]
    exact ih q _ _ (by simpa using h)

theorem polyEval_polyAdd (p q : List Byte) (x : Byte) (h : p.length = q.length) :
    polyEval (polyAdd p q) x = polyEval p x ^^^ polyEval q x :=
  foldl_hornerPass_polyAdd p q x 0 0 h

theorem polyEval_map_gmul (p : List Byte) (c x : Byte) : polyEval (p.map (gmul · c)) x = gmul (polyEval p x) c := by
  induction p using List.reverseRecOn with
  | nil => exact (zero_gmul c).symm
  | append_singleton p a ih =>
    rw [List.map_append, List.map_singleton, polyEval_concat, polyEval_concat, ih, gmul_xor_left, gmul_assoc, gmul_assoc,
      gmul_comm c x]

/-- A multiple of x^m vanishes where its cofactor does. -/
theorem polyEval_append_zeros (p : List Byte) (m : Nat) (x : Byte) (h : polyEval p x = 0) :
    polyEval (p ++ List.replicate m 0) x = 0 := by
  induction m with
  | zero => simpa using h
  | succ m ih => rw [List.replicate_succ', ← List.append_assoc, polyEval_concat, ih, zero_gmul]; rfl

/-! ## Products of polynomials -/

theorem polyMul_cons (c : Byte) (q g : List Byte) :
    polyMul (c :: q) g = polyAdd (g.map (gmul · c) ++ List.replicate q.length 0) (0 :: polyMul q g) := rfl

theorem polyMul_length (q g : List Byte) (hg : g ≠ []) : (polyMul q g).length + 1 = q.length + g.length := by
  have hpos : 0 < g.length := List.length_pos_iff.mpr hg
  induction q with
  | nil => simp [polyMul]; omega
  | cons c q ih => simp [polyMul_cons]; omega

/-- A multiple of `g` vanishes at every root of `g`. -/
theorem polyEval_polyMul_of_root (q g : List Byte) (x : Byte) (hg : g ≠ []) (hroot : polyEval g x = 0) :
    polyEval (polyMul q g) x = 0 := by
  induction q with
  | nil => exact polyEval_append_zeros [] _ x rfl
  | cons c q ih =>
    have hlen := polyMul_length q g hg
    have hterm : polyEval (g.map (gmul · c)) x = 0 := by rw [polyEval_map_gmul, hroot, zero_gmul]
    rw [polyMul_cons, polyEval_polyAdd _ _ _ (by simp; omega), polyEval_append_zeros _ _ _ hterm, polyEval_zero_cons, ih]
    rfl

/-! ## The generator polynomial -/

theorem mulByRoot_eq (p : List Byte) (root : Byte) :
    mulByRoot p root = polyAdd (p ++ [0]) (0 :: p.map (gmul · root)) := rfl

/-- `mulByRoot` is the product with x + root (41_rs_encoder.md R154). -/
theorem polyEval_mulByRoot (p : List Byte) (root x : Byte) :
    polyEval (mulByRoot p root) x = gmul (polyEval p x) (x ^^^ root) := by
  rw [mulByRoot_eq, polyEval_polyAdd _ _ _ (by simp), polyEval_concat, polyEval_zero_cons, polyEval_map_gmul,
    gmul_xor_right, byte_xor_zero]

theorem genPoly_succ (n : Nat) : genPoly (n + 1) = mulByRoot (genPoly n) (expAlpha n) := by
  rw [genPoly, Config.rsFcr, Nat.zero_add]

/-- The generator polynomial is monic (41_rs_encoder.md R154). -/
theorem genPoly_eq_cons (n : Nat) : genPoly n = 1 :: (genPoly n).tail := by
  induction n with
  | zero => rfl
  | succ n ih =>
    rw [genPoly_succ, mulByRoot_eq, ih]
    rfl

theorem genPoly_ne_nil (n : Nat) : genPoly n ≠ [] := by
  rw [genPoly_eq_cons]
  exact List.cons_ne_nil _ _

theorem genPoly_root (n i : Nat) (h : i < n) : polyEval (genPoly n) (expAlpha i) = 0 := by
  induction n with
  | zero => omega
  | succ n ih =>
    rw [genPoly_succ, polyEval_mulByRoot]
    rcases Nat.lt_succ_iff_lt_or_eq.mp h with h | rfl
    · rw [ih h, zero_gmul]
    · rw [BitVec.xor_self]; exact gmul_zero _

/-- Settles O18: each factor adds its root and keeps those before. -/
theorem generatorHasItsRoots : Obligations.GeneratorHasItsRoots := fun n =>
  ⟨genPoly_length n, by rw [genPoly_eq_cons, List.headD_cons], genPoly_root n⟩

/-! ## RSENC as a division -/

/-- A pass shifts the register and adds the multiple of the generator that takes the leading coefficient away
(41_rs_encoder.md R156). -/
theorem rsShift_eq (taps r : List Byte) (d : Byte) :
    rsShift taps r d = polyAdd (r.tail ++ [0]) (taps.map (gmul · (d ^^^ r.headD 0))) :=
  List.zipWith_map_right.symm

/-- LONG DIVISION (41_rs_encoder.md R156): the data followed by what the passes leave in the register is a multiple of the
generator plus the register `r` they start from, at the highest powers. Each pass gives one coefficient of the quotient. -/
theorem foldl_rsShift_divides (taps d r : List Byte) (hr : r.length = taps.length) (hpos : 0 < taps.length) :
    ∃ q : List Byte, q.length = d.length ∧
      d ++ d.foldl (rsShift taps) r = polyAdd (polyMul q (1 :: taps)) (r ++ List.replicate d.length 0) := by
  induction d generalizing r with
  | nil =>
    refine ⟨[], rfl, ?_⟩
    rw [polyAdd_comm, List.length_nil, List.replicate_zero, List.append_nil]
    simpa [polyMul, ← hr] using (polyAdd_zeros r).symm
  | cons x d ih =>
    obtain ⟨r0, r, rfl⟩ := List.exists_cons_of_length_pos (hr.symm ▸ hpos)
    obtain ⟨q, hq, hdiv⟩ := ih (rsShift taps (r0 :: r) x) (rsShift_length _ _ _ hr (by simp))
    refine ⟨(x ^^^ r0) :: q, by simp [hq], ?_⟩
    have hhead : x = (gmul 1 (x ^^^ r0) ^^^ 0) ^^^ r0 := by
      rw [one_gmul, byte_xor_zero, BitVec.xor_assoc, BitVec.xor_self, BitVec.xor_zero]
    have hregister : rsShift taps (r0 :: r) x ++ List.replicate d.length 0 =
        polyAdd (r ++ List.replicate (d.length + 1) 0)
          (taps.map (gmul · (x ^^^ r0)) ++ List.replicate d.length 0) := by
      rw [rsShift_eq, List.replicate_succ, List.append_cons r, polyAdd_append _ _ _ _ (by simpa using hr),
        zeros_polyAdd_zeros]
      rfl
    rw [List.cons_append, List.foldl_cons, hdiv, hregister, polyMul_cons, hq, List.map_cons, List.cons_append,
      List.cons_append, polyAdd_cons, polyAdd_cons, ← hhead, List.length_cons, polyAdd_comm (r ++ _), ← polyAdd_assoc,
      polyAdd_comm (polyMul _ _)]

/-- A block followed by its EC codewords is a multiple of the generator polynomial (41_rs_encoder.md R155). -/
theorem codeword_multiple (d : List Byte) (n : Nat) (hn : 1 ≤ n) :
    ∃ q : List Byte, q.length = d.length ∧ d ++ rsenc d n = polyMul q (genPoly n) := by
  obtain ⟨q, hq, hdiv⟩ := foldl_rsShift_divides (genPoly n).tail d (List.replicate n 0) (by simp)
    (by rw [List.length_tail, genPoly_length]; omega)
  refine ⟨q, hq, hdiv.trans ?_⟩
  have hlen := polyMul_length q (genPoly n) (genPoly_ne_nil n)
  rw [genPoly_length] at hlen
  rw [← genPoly_eq_cons, List.replicate_append_replicate, show n + d.length = (polyMul q (genPoly n)).length by omega,
    polyAdd_zeros]

/-- Settles O19: the quotient is the one the passes of the shift register build. -/
theorem rsencIsTheRemainder : Obligations.RsencIsTheRemainder := fun d n _ hn =>
  ⟨rsenc_length_eq d n, codeword_multiple d n hn⟩

/-- Settles O20: a codeword is a multiple of the generator, which vanishes there. -/
theorem codewordVanishesAtRoots : Obligations.CodewordVanishesAtRoots := by
  intro d n i hi
  obtain ⟨q, -, hq⟩ := codeword_multiple d n (by omega)
  rw [hq]
  exact polyEval_polyMul_of_root q _ _ (genPoly_ne_nil n) (genPoly_root n i hi)

/-! ## RSENC is linear -/

theorem map_gmul_xor (p : List Byte) (b c : Byte) :
    p.map (gmul · (b ^^^ c)) = polyAdd (p.map (gmul · b)) (p.map (gmul · c)) := by
  induction p with
  | nil => rfl
  | cons a p ih => rw [List.map_cons, ih, gmul_xor_right]; rfl

/-- A pass is linear in the register and the data byte. -/
theorem rsShift_polyAdd (taps r r' : List Byte) (x x' : Byte) (h : r.length = r'.length) :
    rsShift taps (polyAdd r r') (x ^^^ x') = polyAdd (rsShift taps r x) (rsShift taps r' x') := by
  have hshift : (polyAdd r r').tail ++ [0] = polyAdd (r.tail ++ [0]) (r'.tail ++ [0]) := by
    rw [polyAdd_append _ _ _ _ (by simp [h]), polyAdd_tail]
    rfl
  rw [rsShift_eq, rsShift_eq, rsShift_eq, hshift, polyAdd_headD r r' h, xor_xor_xor_comm, map_gmul_xor,
    polyAdd_polyAdd_comm]

theorem foldl_rsShift_polyAdd (taps d d' r r' : List Byte) (hd : d.length = d'.length) (hr : r.length = r'.length) :
    (polyAdd d d').foldl (rsShift taps) (polyAdd r r') =
      polyAdd (d.foldl (rsShift taps) r) (d'.foldl (rsShift taps) r') := by
  induction d generalizing d' r r' with
  | nil => rw [List.eq_nil_of_length_eq_zero hd.symm]; rfl
  | cons x d ih =>
    obtain ⟨x', d', rfl⟩ := List.exists_cons_of_length_eq_add_one hd.symm
    rw [polyAdd_cons, List.foldl_cons, rsShift_polyAdd _ _ _ _ _ hr]
    exact ih d' _ _ (by simpa using hd) (by simp [rsShift_eq, hr])

/-- Settles O21: every pass is linear, and so is the empty register. -/
theorem rsencIsLinear : Obligations.RsencIsLinear := by
  intro d d' n hd
  have hlinear := foldl_rsShift_polyAdd (genPoly n).tail d d' (List.replicate n 0) (List.replicate n 0) hd rfl
  rwa [zeros_polyAdd_zeros] at hlinear

/-! ## Special blocks -/

/-- From the empty register, a pass loads the multiple of the generator by the data byte. -/
theorem rsShift_zeros (n : Nat) (x : Byte) (hn : 1 ≤ n) :
    rsShift (genPoly n).tail (List.replicate n 0) x = (genPoly n).tail.map (gmul · x) := by
  obtain ⟨m, rfl⟩ := Nat.exists_eq_add_of_le' hn
  have hlen : ((genPoly (m + 1)).tail.map (gmul · x)).length = m + 1 := by simp
  rw [rsShift_eq, List.replicate_succ, List.tail_cons, ← List.replicate_succ', List.headD_cons, byte_xor_zero,
    polyAdd_comm]
  simpa only [hlen] using polyAdd_zeros ((genPoly (m + 1)).tail.map (gmul · x))

theorem rsenc_zero_cons (d : List Byte) (n : Nat) (hn : 1 ≤ n) : rsenc (0 :: d) n = rsenc d n := by
  rw [rsenc, List.foldl_cons, rsShift_zeros n 0 hn, rsenc]
  congr 1
  simp only [gmul_zero, List.map_const', List.length_tail, genPoly_length, Nat.add_sub_cancel]

/-- Settles O22: leading zeros leave the register empty, and 01 loads the generator itself. -/
theorem rsencOfSpecialBlocks : Obligations.RsencOfSpecialBlocks := by
  intro n hn
  refine ⟨fun k => ?zeros, fun d => rsenc_zero_cons d n hn, ?one⟩
  case zeros =>
    induction k with
    | zero => rfl
    | succ k ih => rw [List.replicate_succ, rsenc_zero_cons _ n hn, ih]
  case one =>
    rw [rsenc, List.foldl_cons, rsShift_zeros n 1 hn, List.foldl_nil]
    simp only [gmul_one, List.map_id']

end Sys2Proof.Machine
end

section
/-! SUPPORT. RS_ENCODE and ECC_SYMBOL: what they store, and that the second is the first, block by block (41_rs_encoder.md
R158 to R166). -/

namespace Sys2Proof.Machine

/-! ## RS_ENCODE -/

/-- The four preconditions of RS_ENCODE (41_rs_encoder.md R165). -/
theorem rsEncodeCheck_none (n k : Nat) (s : State) :
    rsEncodeCheck n k s = none ↔
      (1 ≤ n ∧ n ≤ 30) ∧ (1 ≤ k ∧ k + n ≤ 255) ∧ s.rsSrc.toNat + k ≤ 4096 ∧ s.rsDst.toNat + n ≤ 4096 := by
  rw [rsEncodeCheck, firstFailure_eq_none]
  simp only [List.forall_mem_cons, List.not_mem_nil, false_implies, implies_true, and_true, Bool.and_eq_true,
    decide_eq_true_eq]
  exact Iff.rfl

/-- They all give the same kind (41_rs_encoder.md R165). -/
theorem rsEncodeCheck_some (n k : Nat) (s : State) (h : rsEncodeCheck n k s ≠ none) :
    rsEncodeCheck n k s = some .unexpectedInput := by
  obtain ⟨kind, hkind⟩ := Option.ne_none_iff_exists'.mp h
  have hmem := firstFailure_eq_some _ _ hkind
  rw [hkind]
  simpa using hmem

theorem exec_rsEncode_next (n k : Nat) (s : State) (hr : s.result = 0) (hc : rsEncodeCheck n k s = none) :
    exec (.rsEncode n k) s =
      .next (storeBytes (Config.ebufBase + s.rsDst.toNat) (rsenc (s.dataBlock s.rsSrc.toNat k) n) s) :=
  runCommand_succeeds _ _ s hr hc

/-- A block of DBUF, byte by byte. -/
theorem dataBlock_eq (s : State) (start count : Nat) :
    s.dataBlock start count = (List.range count).map fun i => s.dbuf (start + i) := by
  simp only [State.dataBlock, State.bytesAt, State.dbuf, Nat.add_assoc]

/-- What a store leaves at the place of each of its bytes. -/
theorem byteAt_storeBytes_inside (base : Nat) (bs : List Byte) (s : State) (i : Nat) (h : i < bs.length) :
    (storeBytes base bs s).byteAt (base + i) = bs.getD i 0 := by
  rw [byteAt_storeBytes, if_pos (by omega), Nat.add_sub_cancel_left]

theorem byteAt_storeBytes_outside (base : Nat) (bs : List Byte) (s : State) (a : Nat)
    (h : ¬(base ≤ a ∧ a < base + bs.length)) : (storeBytes base bs s).byteAt a = s.byteAt a := by
  rw [byteAt_storeBytes, if_neg h]

/-- The word of RS_ENCODE loses no bit of its operands (41_rs_encoder.md R165). -/
theorem encode_rsEncode_toNat (n k : Nat) (hn : n < 32) (hk : k < 256) :
    (encode (.rsEncode n k)).toNat = 0x10 + 256 * n + 65536 * k := by
  rw [encode, BitVec.toNat_ofNat]
  omega

/-- Settles O23, by the two outcomes of the operand check. -/
theorem rsEncodeStoresCodewords : Obligations.RsEncodeStoresCodewords := by
  refine ⟨encode_rsEncode_toNat, fun s n k hr hn hn' hk hkn hsrc hdst => ?stored, fun s n k hr h => ?failed⟩
  case stored =>
    have hc := (rsEncodeCheck_none n k s).mpr ⟨⟨hn, hn'⟩, ⟨hk, hkn⟩, hsrc, hdst⟩
    refine ⟨_, exec_rsEncode_next n k s hr hc, rfl, fun j hj => ?_, fun a ha => ?_⟩
    · rw [← dataBlock_eq, State.ebuf, ← Nat.add_assoc, byteAt_storeBytes_inside _ _ _ _ (by rwa [rsenc_length_eq])]
    · exact byteAt_storeBytes_outside _ _ s a (by rwa [rsenc_length_eq])
  case failed =>
    rw [exec_rsEncode]
    exact runCommand_fails _ _ s _ hr (rsEncodeCheck_some n k s (mt (rsEncodeCheck_none n k s).mp h))

/-! ## ECC_SYMBOL -/

/-- The EC codewords of the blocks `js` of a symbol, one block after the other. -/
def blocksEcc (b : BlockSpec) (js : List Nat) (s : State) : List Byte :=
  js.flatMap fun j => rsenc (s.dataBlock (b.start j) (b.len j)) b.n

theorem blocksEcc_cons (b : BlockSpec) (j : Nat) (js : List Nat) (s : State) :
    blocksEcc b (j :: js) s = blocksEcc b [j] s ++ blocksEcc b js s := by
  simp [blocksEcc]

theorem symbolEcc_eq (b : BlockSpec) (s : State) : symbolEcc b s = blocksEcc b (List.range b.nb) s := rfl

theorem exec_eccSymbol_next (s : State) (hr : s.result = 0) (hv : legalVersion s.version.toNat = true) :
    exec .eccSymbol s =
      .next (storeBytes Config.ebufBase (symbolEcc (blockSpec s.version.toNat s.level.toNat) s) s) :=
  runCommand_succeeds _ _ s hr ((versionCheck_none s).mpr hv)

theorem piece_index_lt (n m j i : Nat) (hj : j < m) (hi : i < n) : j * n + i < m * n :=
  calc j * n + i < j * n + n := Nat.add_lt_add_left hi _
    _ = (j + 1) * n := (Nat.succ_mul j n).symm
    _ ≤ m * n := Nat.mul_le_mul_right n hj

/-- In a list of pieces of `n` bytes each, piece `j` stands at j·n. -/
theorem getD_flatMap_range (f : Nat → List Byte) (n m j i : Nat) (hf : ∀ j, (f j).length = n) (hj : j < m) (hi : i < n) :
    ((List.range m).flatMap f).getD (j * n + i) 0 = (f j).getD i 0 := by
  have hlen : ∀ m, ((List.range m).flatMap f).length = m * n := fun m => by simp [List.length_flatMap, hf]
  induction m with
  | zero => omega
  | succ m ih =>
    rw [List.range_succ, List.flatMap_append, List.flatMap_singleton]
    rcases Nat.lt_succ_iff_lt_or_eq.mp hj with hlt | rfl
    · rw [List.getD_append _ _ _ _ (by rw [hlen]; exact piece_index_lt n m j i hlt hi), ih hlt]
    · rw [List.getD_append_right _ _ _ _ (by rw [hlen]; omega), hlen, Nat.add_sub_cancel_left]

/-- Settles O24, by the two outcomes of the Version check. -/
theorem eccSymbolStoresEveryBlock : Obligations.EccSymbolStoresEveryBlock := by
  refine ⟨fun s b hr hlow hhigh hb => ?stored, fun s hr h => ?failed⟩
  case stored =>
    have hexec := exec_eccSymbol_next s hr ((legalVersion_iff _).mpr ⟨hlow, hhigh⟩)
    rw [← hb] at hexec
    refine ⟨_, hexec, rfl, fun j i hj hi => ?_, fun a ha => ?_⟩
    · have hin : j * b.n + i < (symbolEcc b s).length := by
        rw [symbolEcc_length]
        exact piece_index_lt _ _ j i hj hi
      rw [State.ebuf, byteAt_storeBytes_inside _ _ _ _ hin, ← dataBlock_eq]
      exact getD_flatMap_range _ _ _ j i (fun _ => rsenc_length_eq _ _) hj hi
    · exact byteAt_storeBytes_outside _ _ s a (by rwa [symbolEcc_length])
  case failed =>
    have hv : legalVersion s.versionOperand = false := Bool.eq_false_iff.mpr (mt (legalVersion_iff _).mp h)
    rw [exec_eccSymbol]
    exact runCommand_fails _ _ s _ hr ((versionCheck_some s _).mpr ⟨hv, rfl⟩)

/-! ## ECC_SYMBOL block by block -/

/-- The block structure lets RS_ENCODE pass its operand check for every block (41_rs_encoder.md R165, R166). -/
abbrev BlockSpec.encodable (b : BlockSpec) : Prop :=
  (1 ≤ b.n ∧ b.n ≤ 30) ∧ (1 ≤ b.k1 ∧ b.k1 + 1 + b.n ≤ 255) ∧ b.nb * b.k1 + b.b2 ≤ 4096 ∧ b.nb * b.n ≤ 4096 ∧
    b.nb = b.b1 + b.b2

/-- All 160 rows of the block table (45_rom_tables.md R311). -/
theorem blockSpec_encodable : ∀ v ≤ 40, 1 ≤ v → ∀ l < 4, (blockSpec v l).encodable := by
  decide +kernel

/-- The operands of block `j` are in the ranges of RS_ENCODE's check. -/
theorem block_operands (b : BlockSpec) (hb : b.encodable) (j : Nat) (hj : j < b.nb) :
    (1 ≤ b.len j ∧ b.len j + b.n ≤ 255) ∧ b.start j + b.len j ≤ 4096 ∧ j * b.n + b.n ≤ 4096 := by
  obtain ⟨-, ⟨hk, hkn⟩, hdata, hec, hnb⟩ := hb
  have hk1 : (j + 1) * b.k1 ≤ b.nb * b.k1 := Nat.mul_le_mul_right _ hj
  have hn : (j + 1) * b.n ≤ b.nb * b.n := Nat.mul_le_mul_right _ hj
  rw [Nat.add_mul, Nat.one_mul] at hk1 hn
  unfold BlockSpec.len BlockSpec.start
  refine ⟨by split <;> omega, by split <;> omega, by omega⟩

/-- RS_SRC and RS_DST for one block of a symbol (41_rs_encoder.md R166). -/
def withBlockOperands (b : BlockSpec) (j : Nat) (s : State) : State :=
  { s with rsSrc := BitVec.ofNat 12 (b.start j), rsDst := BitVec.ofNat 12 (j * b.n) }

/-- RS_ENCODE of one block stores its EC codewords at j·n, and the registers are put back (41_rs_encoder.md R166). -/
theorem encodeBlock_next (b : BlockSpec) (hb : b.encodable) (s : State) (hr : s.result = 0) (j : Nat) (hj : j < b.nb) :
    encodeBlock b s j = .next (storeBytes (Config.ebufBase + j * b.n) (blocksEcc b [j] s) s) := by
  obtain ⟨⟨hlen, hcode⟩, hsrc, hdst⟩ := block_operands b hb j hj
  have hsrcReg : (withBlockOperands b j s).rsSrc.toNat = b.start j := Nat.mod_eq_of_lt (by omega)
  have hdstReg : (withBlockOperands b j s).rsDst.toNat = j * b.n := Nat.mod_eq_of_lt (by omega)
  have hc : rsEncodeCheck b.n (b.len j) (withBlockOperands b j s) = none :=
    (rsEncodeCheck_none _ _ _).mpr ⟨hb.1, ⟨hlen, hcode⟩, by rwa [hsrcReg], by rwa [hdstReg]⟩
  have hexec := exec_rsEncode_next b.n (b.len j) (withBlockOperands b j s) hr hc
  rw [hsrcReg, hdstReg] at hexec
  rw [blocksEcc, List.flatMap_singleton]
  exact congrArg (mapNext _) hexec

/-- A block of DBUF depends on the bytes of DBUF alone, so a store to EBUF keeps it. -/
theorem dataBlock_storeBytes (base : Nat) (bs : List Byte) (s : State) (start count : Nat)
    (hbase : Config.ebufBase ≤ base) (h : start + count ≤ 4096) :
    (storeBytes base bs s).dataBlock start count = s.dataBlock start count := by
  rw [dataBlock_eq, dataBlock_eq]
  refine List.map_congr_left fun i hi => ?_
  have := List.mem_range.mp hi
  refine byteAt_storeBytes_outside base bs s _ ?_
  unfold Config.ebufBase Config.dbufBase at *
  omega

theorem blocksEcc_storeBytes (b : BlockSpec) (hb : b.encodable) (js : List Nat) (hjs : ∀ j ∈ js, j < b.nb) (base : Nat)
    (bs : List Byte) (s : State) (hbase : Config.ebufBase ≤ base) :
    blocksEcc b js (storeBytes base bs s) = blocksEcc b js s := by
  refine List.flatMap_congr fun j hj => ?_
  rw [dataBlock_storeBytes base bs s _ _ hbase (block_operands b hb j (hjs j hj)).2.1]

/-- Two pieces stored one after the other are one piece. -/
theorem byteAt_storeBytes_append (base : Nat) (bs bs' : List Byte) (s : State) (a : Nat) :
    (storeBytes (base + bs.length) bs' (storeBytes base bs s)).byteAt a = (storeBytes base (bs ++ bs') s).byteAt a := by
  rw [byteAt_storeBytes, byteAt_storeBytes, byteAt_storeBytes, List.length_append]
  by_cases hin : base ≤ a ∧ a < base + (bs.length + bs'.length)
  · rw [if_pos hin]
    by_cases hfirst : a < base + bs.length
    · rw [if_neg (by omega), if_pos ⟨hin.1, hfirst⟩, List.getD_append _ _ _ _ (by omega)]
    · rw [if_pos (by omega), List.getD_append_right _ _ _ _ (by omega), Nat.sub_sub]
  · rw [if_neg (by omega), if_neg (by omega), if_neg hin]

/-- The blocks from `j` up, encoded one by one, leave what one store of all their EC codewords leaves. -/
theorem encodeBlocks_next (b : BlockSpec) (hb : b.encodable) (j count : Nat) (s : State) (hr : s.result = 0)
    (hcount : j + count ≤ b.nb) :
    ∃ u, encodeBlocks b (List.range' j count) s = .next u ∧ u = { s with mem := u.mem } ∧
      ∀ a, u.byteAt a = (storeBytes (Config.ebufBase + j * b.n) (blocksEcc b (List.range' j count) s) s).byteAt a := by
  induction count generalizing j s with
  | zero =>
    refine ⟨s, rfl, rfl, fun a => (byteAt_storeBytes_outside _ _ s a ?_).symm⟩
    simp [blocksEcc]
  | succ count ih =>
    have hblock := encodeBlock_next b hb s hr j (by omega)
    obtain ⟨u, hrun, hframe, hbytes⟩ :=
      ih (j + 1) (storeBytes (Config.ebufBase + j * b.n) (blocksEcc b [j] s) s) hr (by omega)
    have hrest : ∀ i ∈ List.range' (j + 1) count, i < b.nb := fun i hi => by
      have := List.mem_range'_1.mp hi
      omega
    have hnext : Config.ebufBase + (j + 1) * b.n = Config.ebufBase + j * b.n + (blocksEcc b [j] s).length := by
      simp [blocksEcc, rsenc_length_eq, Nat.add_mul, Nat.add_assoc]
    rw [List.range'_succ, encodeBlocks, hblock]
    refine ⟨u, hrun, hframe, fun a => ?_⟩
    rw [hbytes, blocksEcc_storeBytes b hb _ hrest _ _ s (by omega), hnext, byteAt_storeBytes_append, ← blocksEcc_cons]

/-- Settles O25: block by block, the stores of RS_ENCODE are the parts of ECC_SYMBOL's. -/
theorem eccSymbolEqualsBlockByBlock : Obligations.EccSymbolEqualsBlockByBlock := by
  intro s hr hlow hhigh
  have hb := blockSpec_encodable s.version.toNat hhigh hlow s.level.toNat s.level.isLt
  obtain ⟨u, hrun, hframe, hbytes⟩ :=
    encodeBlocks_next _ hb 0 (blockSpec s.version.toNat s.level.toNat).nb s hr (by omega)
  rw [← List.range_eq_range'] at hrun hbytes
  refine ⟨_, u, exec_eccSymbol_next s hr ((legalVersion_iff _).mpr ⟨hlow, hhigh⟩), hrun, hframe, fun a => ?_⟩
  rw [hbytes, Nat.zero_mul, symbolEcc_eq]
  rfl

end Sys2Proof.Machine
end

section
/-! SUPPORT. Arrays under runs of `dark` writes, and the format modules (42_matrix_builder.md R196, R202). -/

namespace Sys2Proof.Machine

/-! ## Runs of `dark` writes -/

/-- `f` with the `dark` bit of module (x, y) set. -/
def withDark (f : Nat → Nat → QrModule) (x y : Nat) (b : Bool) : Nat → Nat → QrModule :=
  fun u v => if x = u ∧ y = v then { f u v with dark := b } else f u v

theorem matSetDark_matTabulate (n : Nat) (f : Nat → Nat → QrModule) (x y : Nat) (b : Bool) :
    matSetDark (matTabulate n f) x y b = matTabulate n (withDark f x y b) := by
  unfold matSetDark matTabulate
  refine List.ext_getElem (by simp) fun v hv _ => ?_
  rw [List.getElem_modify]
  by_cases hy : y = v
  · refine List.ext_getElem (by simp [hy]) fun u hu _ => ?_
    by_cases hx : x = u <;> simp [withDark, hx, hy]
  · simp [withDark, hy]

/-- Positions, each with the number of the bit that a run of `dark` writes puts there. -/
abbrev Cells := List ((Nat × Nat) × Nat)

/-- The run of `dark` writes that puts bit number `c.2` at position `c.1`, as `writeFormat` and `place` make it. -/
def setDarks (l : Cells) (bit : Nat → Bool) (m : Matrix) : Matrix :=
  l.foldl (fun acc c => matSetDark acc c.1.1 c.1.2 (bit c.2)) m

theorem writeFormat_eq_setDarks (m : Matrix) (s : Nat) (w : BitVec 15) :
    writeFormat m s w = setDarks (formatCells s) w.getLsbD m := rfl

theorem place_eq_setDarks (v : Nat) (m : Matrix) (cw : List Byte) :
    place v m cw = setDarks (placeOrder v).zipIdx (codewordBit cw) (writeFormat m (side v) 0) := rfl

/-- A run of `dark` writes keeps the shape of an array. -/
theorem setDarks_matTabulate (l : Cells) (bit : Nat → Bool) (n : Nat) (f : Nat → Nat → QrModule) :
    ∃ g, setDarks l bit (matTabulate n f) = matTabulate n g := by
  unfold setDarks
  induction l generalizing f with
  | nil => exact ⟨f, rfl⟩
  | cons c l ih => rw [List.foldl_cons, matSetDark_matTabulate]; exact ih _

theorem matHas_setDarks (l : Cells) (bit : Nat → Bool) (m : Matrix) (x y : Nat) :
    matHas (setDarks l bit m) x y ↔ matHas m x y :=
  matHas_foldl_setDark l (fun c => c.1.1) (fun c => c.1.2) (fun c => bit c.2) m x y

/-- A module that the run does not name keeps its value. -/
theorem matGet_setDarks_other (l : Cells) (bit : Nat → Bool) (m : Matrix) (x y : Nat) (h : matHas m x y)
    (hne : (x, y) ∉ l.map Prod.fst) : matGet (setDarks l bit m) x y = matGet m x y :=
  matGet_foldl_setDark_other l (fun c => c.1.1) (fun c => c.1.2) (fun c => bit c.2) m x y h
    fun c hc hxy => hne (List.mem_map.mpr ⟨c, hc, Prod.ext hxy.1 hxy.2⟩)

/-- Where no position is named twice, each takes its own bit. -/
theorem matGet_setDarks_named (l : Cells) (bit : Nat → Bool) (m : Matrix) (c : (Nat × Nat) × Nat) (hc : c ∈ l)
    (hl : (l.map Prod.fst).Nodup) (h : matHas m c.1.1 c.1.2) :
    matGet (setDarks l bit m) c.1.1 c.1.2 = { matGet m c.1.1 c.1.2 with dark := bit c.2 } := by
  induction l generalizing m with
  | nil => simp at hc
  | cons d l ih =>
    rw [List.map_cons, List.nodup_cons] at hl
    obtain ⟨hd, hl⟩ := hl
    have hkeep := (matHas_matSetDark m d.1.1 d.1.2 (bit d.2) c.1.1 c.1.2).mpr h
    show matGet (setDarks l bit (matSetDark m d.1.1 d.1.2 (bit d.2))) c.1.1 c.1.2 = _
    rcases List.mem_cons.mp hc with rfl | hc
    · rw [matGet_setDarks_other l bit _ _ _ hkeep hd, matGet_matSetDark _ _ _ _ _ _ h, if_pos ⟨rfl, rfl⟩]
    · have hne : ¬(d.1.1 = c.1.1 ∧ d.1.2 = c.1.2) := fun hxy =>
        hd (List.mem_map.mpr ⟨c, hc, (Prod.ext hxy.1 hxy.2).symm⟩)
      rw [ih _ hc hl hkeep, matGet_matSetDark _ _ _ _ _ _ h, if_neg hne]

theorem matGet_setDarks_func (l : Cells) (bit : Nat → Bool) (m : Matrix) (x y : Nat) (h : matHas m x y) :
    (matGet (setDarks l bit m) x y).func = (matGet m x y).func :=
  matGet_foldl_setDark_func l (fun c => c.1.1) (fun c => c.1.2) (fun c => bit c.2) m x y h

/-! ## The format modules -/

/-- A position of the 21 by 21 symbol moved to where it stands in a symbol whose side is greater by `d`. -/
def stretch (d : Nat) (p : Nat × Nat) : Nat × Nat :=
  (if 8 < p.1 then d + p.1 else p.1, if 8 < p.2 then d + p.2 else p.2)

theorem stretch_injective (d : Nat) : Function.Injective (stretch d) := by
  rintro ⟨x, y⟩ ⟨u, v⟩ h
  simp only [stretch, Prod.mk.injEq] at h ⊢
  grind

theorem formatCells_stretch (d : Nat) :
    formatCells (d + 21) = (formatCells 21).map fun c => (stretch d c.1, c.2) := rfl

/-- No format module stands for two bits (42_matrix_builder.md R196). -/
theorem formatCells_nodup (s : Nat) (hs : 21 ≤ s) : ((formatCells s).map Prod.fst).Nodup := by
  obtain ⟨d, rfl⟩ := Nat.exists_eq_add_of_le' hs
  have hsmall : ((formatCells 21).map Prod.fst).Nodup := by decide
  have hmap : (formatCells (d + 21)).map Prod.fst = ((formatCells 21).map Prod.fst).map (stretch d) := by
    rw [formatCells_stretch, List.map_map, List.map_map]; rfl
  rw [hmap]
  exact hsmall.map (stretch_injective d)

theorem isFormat_eq_true (s x y : Nat) : isFormat s x y = true ↔ (x, y) ∈ (formatCells s).map Prod.fst := by
  simp only [isFormat, List.any_eq_true, beq_iff_eq, List.mem_map]

theorem formatCells_map_fst (s : Nat) : (formatCells s).map Prod.fst = formatCopyA ++ formatCopyB s := rfl

theorem mem_formatCopyA (x y : Nat) :
    (x, y) ∈ formatCopyA ↔ (x = 8 ∧ y ≠ 6 ∧ y ≤ 8) ∨ (y = 8 ∧ x ≠ 6 ∧ x ≤ 8) := by
  simp only [formatCopyA, List.mem_cons, Prod.mk.injEq, List.not_mem_nil, or_false]
  constructor
  · omega
  · rintro (⟨rfl, h⟩ | ⟨rfl, h⟩)
    · simp
      omega
    · simp
      omega

theorem mem_formatCopyB (s x y : Nat) (hs : 21 ≤ s) :
    (x, y) ∈ formatCopyB s ↔ (x = 8 ∧ s - 7 ≤ y ∧ y < s) ∨ (y = 8 ∧ s - 8 ≤ x ∧ x < s) := by
  obtain ⟨d, rfl⟩ := Nat.exists_eq_add_of_le' hs
  simp only [formatCopyB, List.mem_cons, Prod.mk.injEq, List.not_mem_nil, or_false, Nat.reduceSubDiff]
  constructor
  · omega
  · rintro (⟨rfl, h⟩ | ⟨rfl, h⟩)
    · simp
      omega
    · simp
      omega

/-- The format modules lie on column 8 and on row 8 (42_matrix_builder.md R196). -/
theorem isFormat_iff (s x y : Nat) (hs : 21 ≤ s) :
    isFormat s x y = true ↔
      (x = 8 ∧ (y ≠ 6 ∧ y ≤ 8 ∨ s - 7 ≤ y ∧ y < s)) ∨ (y = 8 ∧ (x ≠ 6 ∧ x ≤ 8 ∨ s - 8 ≤ x ∧ x < s)) := by
  rw [isFormat_eq_true, formatCells_map_fst, List.mem_append, mem_formatCopyA, mem_formatCopyB s x y hs]
  omega

/-- Every format module lies in the symbol. -/
theorem isFormat_lt (s x y : Nat) (hs : 21 ≤ s) (h : isFormat s x y = true) : x < s ∧ y < s := by
  have := (isFormat_iff s x y hs).mp h
  omega

theorem isFormat_of_mem (s : Nat) (c : (Nat × Nat) × Nat) (hc : c ∈ formatCells s) : isFormat s c.1.1 c.1.2 = true :=
  (isFormat_eq_true _ _ _).mpr (List.mem_map_of_mem hc)

/-- WriteFormat gives each format module its bit (42_matrix_builder.md R202). -/
theorem matGet_writeFormat_format (f : Nat → Nat → QrModule) (s : Nat) (w : BitVec 15) (hs : 21 ≤ s)
    (c : (Nat × Nat) × Nat) (hc : c ∈ formatCells s) :
    matGet (writeFormat (matTabulate s f) s w) c.1.1 c.1.2 = { f c.1.1 c.1.2 with dark := w.getLsbD c.2 } := by
  have hin := isFormat_lt s _ _ hs (isFormat_of_mem s c hc)
  rw [writeFormat_eq_setDarks, matGet_setDarks_named _ _ _ c hc (formatCells_nodup s hs)
    ((matHas_matTabulate ..).mpr hin), matGet_matTabulate, if_pos hin]

/-- WriteFormat keeps every other module (42_matrix_builder.md R202). -/
theorem matGet_writeFormat_other (f : Nat → Nat → QrModule) (s : Nat) (w : BitVec 15) (x y : Nat) (hx : x < s)
    (hy : y < s) (h : isFormat s x y = false) : matGet (writeFormat (matTabulate s f) s w) x y = f x y := by
  rw [writeFormat_eq_setDarks, matGet_setDarks_other _ _ _ _ _ ((matHas_matTabulate ..).mpr ⟨hx, hy⟩),
    matGet_matTabulate, if_pos ⟨hx, hy⟩]
  rw [← isFormat_eq_true]
  simp [h]

/-- WriteFormat keeps every `func` bit (42_matrix_builder.md R202). -/
theorem matGet_writeFormat_func (f : Nat → Nat → QrModule) (s : Nat) (w : BitVec 15) (x y : Nat) (hx : x < s)
    (hy : y < s) : (matGet (writeFormat (matTabulate s f) s w) x y).func = (f x y).func := by
  rw [writeFormat_eq_setDarks, matGet_setDarks_func _ _ _ _ _ ((matHas_matTabulate ..).mpr ⟨hx, hy⟩),
    matGet_matTabulate, if_pos ⟨hx, hy⟩]

/-- Settles O26: the 30 positions are distinct, so each write stays, and no other module is written. -/
theorem writeFormatSpellsWord : Obligations.WriteFormatSpellsWord := by
  intro f s w hs
  refine ⟨fun c hc => ?_, fun x y hx hy => ⟨matGet_writeFormat_func f s w x y hx hy, ?_⟩⟩
  · rw [matGet_writeFormat_format f s w hs c hc]
  · exact matGet_writeFormat_other f s w x y hx hy

end Sys2Proof.Machine
end

section
/-! SUPPORT. Which modules of a frame are function modules, and the scan order of the others (42_matrix_builder.md R198,
R206 to R208). -/

namespace Sys2Proof.Machine

theorem side_ge (v : Nat) (h : 1 ≤ v) : 21 ≤ side v := by
  unfold side
  omega

/-! ## Function modules of the frame -/

/-- Every clause of 42_matrix_builder.md R198 but the last gives a function module. -/
theorem frameModule_func (v x y : Nat) :
    (frameModule v x y).func = true ↔
      (finderDist (side v) x y).isSome = true ∨ (alignDist v x y).isSome = true ∨ (x = 6 ∨ y = 6) ∨
        (x = 8 ∧ y = side v - 8) ∨ isFormat (side v) x y = true ∨ (versionBit v x y).isSome = true := by
  unfold frameModule
  dsimp only
  cases finderDist (side v) x y with
  | some d => simp
  | none =>
    cases alignDist v x y with
    | some d => simp
    | none =>
      split_ifs with h6 h8 hformat
      · simp [h6]
      · simp only [h8, true_and, true_or, or_true]
      · simp [hformat]
      · cases versionBit v x y <;> simp [h6, h8, hformat, QrModule.blank]

theorem frameModule_func_of_isFormat (v x y : Nat) (h : isFormat (side v) x y = true) :
    (frameModule v x y).func = true :=
  (frameModule_func v x y).mpr (by simp [h])

/-- Column 6 holds the timing pattern and finder zones, so it has no data module (42_matrix_builder.md R195). -/
theorem frameModule_func_column6 (v y : Nat) : (frameModule v 6 y).func = true :=
  (frameModule_func v 6 y).mpr (by simp)

/-! ## The scan order -/

/-- All modules in the order PlaceOrder passes them (42_matrix_builder.md R206). -/
def scanOrder (s : Nat) : List (Nat × Nat) :=
  (pairColumns s (s - 1)).flatMap fun right => (pairRows s right).flatMap fun y => [(right, y), (right - 1, y)]

theorem placeOrder_eq_filter (v : Nat) :
    placeOrder v = (scanOrder (side v)).filter fun p => !(frameModule v p.1 p.2).func := by
  simp only [placeOrder, scanOrder, List.filter_flatMap]

theorem mem_pairRows (s right y : Nat) : y ∈ pairRows s right ↔ y < s := by
  unfold pairRows
  split
  · simp only [List.mem_map, List.mem_range]
    exact ⟨by omega, fun h => ⟨s - 1 - y, by omega, by omega⟩⟩
  · exact List.mem_range

theorem pairRows_nodup (s right : Nat) : (pairRows s right).Nodup := by
  unfold pairRows
  split
  · refine List.Nodup.map_on (fun a ha b hb h => ?_) List.nodup_range
    rw [List.mem_range] at ha hb
    omega
  · exact List.nodup_range

/-- The right columns from an even column of at least 6 down: the even columns from 8 up, then 5, 3 and 1. -/
theorem mem_pairColumns (k fuel : Nat) (hfuel : k + 4 ≤ fuel) (r : Nat) :
    r ∈ pairColumns fuel (2 * k + 6) ↔ (r % 2 = 0 ∧ 8 ≤ r ∧ r ≤ 2 * k + 6) ∨ r = 5 ∨ r = 3 ∨ r = 1 := by
  induction k generalizing fuel with
  | zero =>
    obtain ⟨fuel, rfl⟩ := Nat.exists_eq_add_of_le' hfuel
    simp [pairColumns]
    omega
  | succ k ih =>
    obtain ⟨fuel, rfl⟩ := Nat.exists_eq_add_of_le' (show 1 ≤ fuel by omega)
    rw [pairColumns, if_pos (by omega)]
    simp only [if_neg (show ¬ 2 * (k + 1) + 6 = 6 by omega), show 2 * (k + 1) + 6 - 2 = 2 * k + 6 by omega,
      List.mem_cons, ih fuel (by omega)]
    omega

/-- The right columns fall by at least 2, so no column is passed twice. -/
theorem pairColumns_falling (fuel right : Nat) :
    (∀ r ∈ pairColumns fuel right, 1 ≤ r ∧ r ≤ right) ∧ (pairColumns fuel right).Pairwise fun r q => q + 2 ≤ r := by
  induction fuel generalizing right with
  | zero => simp [pairColumns]
  | succ fuel ih =>
    rw [pairColumns]
    split
    · obtain ⟨hle, hfall⟩ := ih ((if right = 6 then 5 else right) - 2)
      refine ⟨fun r hr => ?_, List.pairwise_cons.mpr ⟨fun q hq => ?_, hfall⟩⟩
      · rcases List.mem_cons.mp hr with rfl | hr
        · split <;> omega
        · have := hle r hr
          split at this <;> omega
      · have := hle q hq
        split_ifs at this ⊢ <;> omega
    · simp

theorem mem_scanOrder (v x y : Nat) : (x, y) ∈ scanOrder (side v) ↔ (x < side v ∧ x ≠ 6) ∧ y < side v := by
  have hside : side v = 4 * v + 17 := rfl
  have hright : side v - 1 = 2 * (2 * v + 5) + 6 := by omega
  have hmem : (x, y) ∈ scanOrder (side v) ↔
      ∃ r ∈ pairColumns (side v) (2 * (2 * v + 5) + 6), (x = r ∨ x = r - 1) ∧ y < side v := by
    rw [scanOrder, hright]
    simp only [List.mem_flatMap, mem_pairRows, List.mem_cons, List.not_mem_nil, or_false, Prod.mk.injEq]
    grind
  have hcolumns := mem_pairColumns (2 * v + 5) (side v) (by omega)
  rw [hmem]
  constructor
  · rintro ⟨r, hr, hx, hy⟩
    rw [hcolumns] at hr
    omega
  · rintro ⟨⟨hx, h6⟩, hy⟩
    by_cases hlow : x < 6
    · exact ⟨x + (1 - x % 2), (hcolumns _).mpr (by omega), by omega, hy⟩
    · exact ⟨x + x % 2, (hcolumns _).mpr (by omega), by omega, hy⟩

theorem scanOrder_nodup (s : Nat) : (scanOrder s).Nodup := by
  obtain ⟨hpos, hfall⟩ := pairColumns_falling s (s - 1)
  refine List.nodup_flatMap.mpr ⟨fun r hr => List.nodup_flatMap.mpr ⟨fun y _ => ?_, ?_⟩, ?_⟩
  · have := hpos r hr
    simp
    omega
  · refine (pairRows_nodup s r).imp fun hne => ?_
    simp [List.disjoint_left, Function.onFun]
    grind
  · refine hfall.imp fun hqr p hp hq => ?_
    simp only [List.mem_flatMap, List.mem_cons, List.not_mem_nil, or_false] at hp hq
    obtain ⟨y, -, hp⟩ := hp
    obtain ⟨u, -, hq⟩ := hq
    grind

/-- PlaceOrder has no repeated entry (42_matrix_builder.md R206). -/
theorem placeOrder_nodup (v : Nat) : (placeOrder v).Nodup := by
  rw [placeOrder_eq_filter]
  exact (scanOrder_nodup _).filter _

/-- PlaceOrder lists exactly the data modules of the frame (42_matrix_builder.md R206). -/
theorem mem_placeOrder (v x y : Nat) :
    (x, y) ∈ placeOrder v ↔ x < side v ∧ y < side v ∧ (frameModule v x y).func = false := by
  rw [placeOrder_eq_filter, List.mem_filter, mem_scanOrder, Bool.not_eq_true']
  constructor
  · rintro ⟨⟨⟨hx, -⟩, hy⟩, hf⟩
    exact ⟨hx, hy, hf⟩
  · rintro ⟨hx, hy, hf⟩
    refine ⟨⟨⟨hx, ?_⟩, hy⟩, hf⟩
    rintro rfl
    rw [frameModule_func_column6] at hf
    exact absurd hf (by decide)

/-- Settles O27: PlaceOrder is the scan order, which passes no module twice and misses column 6 alone, without the function
modules. -/
theorem placeOrderListsDataModules : Obligations.PlaceOrderListsDataModules := fun v _ _ =>
  ⟨placeOrder_nodup v, mem_placeOrder v⟩

/-! ## Placement -/

theorem zipIdx_placeOrder_map_fst (v : Nat) : (placeOrder v).zipIdx.map Prod.fst = placeOrder v :=
  List.zipIdx_map_fst 0 _

theorem mem_placeOrder_of_zipIdx (v : Nat) (p : (Nat × Nat) × Nat) (hp : p ∈ (placeOrder v).zipIdx) :
    (p.1.1, p.1.2) ∈ placeOrder v :=
  zipIdx_placeOrder_map_fst v ▸ List.mem_map_of_mem hp

theorem not_isFormat_of_mem_placeOrder (v x y : Nat) (h : (x, y) ∈ placeOrder v) : isFormat (side v) x y = false := by
  obtain ⟨-, -, hf⟩ := (mem_placeOrder v x y).mp h
  refine Bool.eq_false_iff.mpr fun hfmt => ?_
  rw [frameModule_func_of_isFormat v x y hfmt] at hf
  exact absurd hf (by decide)

section

variable (v : Nat) (f : Nat → Nat → QrModule) (cw : List Byte)

/-- Place reads the array that WriteFormat leaves, but for the data modules. -/
theorem matGet_place_other (x y : Nat) (hx : x < side v) (hy : y < side v) (h : (x, y) ∉ placeOrder v) :
    matGet (place v (matTabulate (side v) f) cw) x y = matGet (writeFormat (matTabulate (side v) f) (side v) 0) x y := by
  rw [place_eq_setDarks, matGet_setDarks_other]
  · rw [writeFormat_eq_setDarks, matHas_setDarks]
    exact (matHas_matTabulate ..).mpr ⟨hx, hy⟩
  · rwa [zipIdx_placeOrder_map_fst]

/-- Place keeps every `func` bit (42_matrix_builder.md R208). -/
theorem matGet_place_func (x y : Nat) (hx : x < side v) (hy : y < side v) :
    (matGet (place v (matTabulate (side v) f) cw) x y).func = (f x y).func := by
  rw [place_eq_setDarks, matGet_setDarks_func, matGet_writeFormat_func f _ 0 x y hx hy]
  rw [writeFormat_eq_setDarks, matHas_setDarks]
  exact (matHas_matTabulate ..).mpr ⟨hx, hy⟩

/-- Place gives each data module its bit (42_matrix_builder.md R207, R208). -/
theorem matGet_place_data (p : (Nat × Nat) × Nat) (hp : p ∈ (placeOrder v).zipIdx) :
    matGet (place v (matTabulate (side v) f) cw) p.1.1 p.1.2 = { f p.1.1 p.1.2 with dark := codewordBit cw p.2 } := by
  have hin := mem_placeOrder_of_zipIdx v p hp
  obtain ⟨hx, hy, -⟩ := (mem_placeOrder v _ _).mp hin
  rw [place_eq_setDarks, matGet_setDarks_named _ _ _ p hp,
    matGet_writeFormat_other f _ 0 _ _ hx hy (not_isFormat_of_mem_placeOrder v _ _ hin)]
  · rw [zipIdx_placeOrder_map_fst]
    exact placeOrder_nodup v
  · rw [writeFormat_eq_setDarks, matHas_setDarks]
    exact (matHas_matTabulate ..).mpr ⟨hx, hy⟩

/-- Place makes the format modules light (42_matrix_builder.md R208). -/
theorem matGet_place_format (hv : 1 ≤ v) (c : (Nat × Nat) × Nat) (hc : c ∈ formatCells (side v)) :
    matGet (place v (matTabulate (side v) f) cw) c.1.1 c.1.2 = { f c.1.1 c.1.2 with dark := false } := by
  have hfmt := isFormat_of_mem _ c hc
  obtain ⟨hx, hy⟩ := isFormat_lt _ _ _ (side_ge v hv) hfmt
  rw [matGet_place_other v f cw _ _ hx hy, matGet_writeFormat_format f _ 0 (side_ge v hv) c hc]
  · simp
  · intro hin
    rw [not_isFormat_of_mem_placeOrder v _ _ hin] at hfmt
    exact absurd hfmt (by decide)

/-- Place keeps every other module (42_matrix_builder.md R208). -/
theorem matGet_place_kept (x y : Nat) (hx : x < side v) (hy : y < side v) (h : (x, y) ∉ placeOrder v)
    (hfmt : isFormat (side v) x y = false) : matGet (place v (matTabulate (side v) f) cw) x y = f x y := by
  rw [matGet_place_other v f cw x y hx hy h, matGet_writeFormat_other f _ 0 x y hx hy hfmt]

end

/-- Settles O28: data and format modules are disjoint, so neither run of writes disturbs the other. -/
theorem placeWritesDataAndFormat : Obligations.PlaceWritesDataAndFormat := fun v f cw hv _ =>
  ⟨matGet_place_data v f cw, matGet_place_format v f cw hv, matGet_place_kept v f cw⟩

end Sys2Proof.Machine
end

section
/-! SUPPORT. The function modules of a frame as disjoint rectangles, which count the entries of PlaceOrder
(42_matrix_builder.md R206, 45_rom_tables.md R310). -/

namespace Sys2Proof.Machine

/-! ## Rectangles -/

/-- The modules (x, y) with `x0 ≤ x < x1` and `y0 ≤ y < y1`. -/
structure Rect where
  x0 : Nat
  x1 : Nat
  y0 : Nat
  y1 : Nat

def Rect.cells (r : Rect) : Finset (Nat × Nat) := Finset.Ico r.x0 r.x1 ×ˢ Finset.Ico r.y0 r.y1

def Rect.area (r : Rect) : Nat := (r.x1 - r.x0) * (r.y1 - r.y0)

/-- One of the two lies wholly to one side of the other. -/
abbrev Rect.apart (r q : Rect) : Prop := r.x1 ≤ q.x0 ∨ q.x1 ≤ r.x0 ∨ r.y1 ≤ q.y0 ∨ q.y1 ≤ r.y0

theorem Rect.mem_cells (r : Rect) (x y : Nat) :
    (x, y) ∈ r.cells ↔ (r.x0 ≤ x ∧ x < r.x1) ∧ r.y0 ≤ y ∧ y < r.y1 := by
  simp [Rect.cells]

theorem Rect.card_cells (r : Rect) : r.cells.card = r.area := by
  simp [Rect.cells, Rect.area]

theorem Rect.disjoint_cells (r q : Rect) (h : r.apart q) : Disjoint r.cells q.cells := by
  rw [Finset.disjoint_left]
  rintro ⟨x, y⟩ hr hq
  rw [Rect.mem_cells] at hr hq
  unfold Rect.apart at h
  omega

/-- The modules of a list of rectangles. -/
def coveredCells : List Rect → Finset (Nat × Nat)
  | [] => ∅
  | r :: l => r.cells ∪ coveredCells l

theorem mem_coveredCells (l : List Rect) (x y : Nat) : (x, y) ∈ coveredCells l ↔ ∃ r ∈ l, (x, y) ∈ r.cells := by
  induction l with
  | nil => simp [coveredCells]
  | cons r l ih => simp [coveredCells, ih]

/-- Rectangles that are apart have as many modules as their areas add up to. -/
theorem card_coveredCells (l : List Rect) (h : l.Pairwise Rect.apart) :
    (coveredCells l).card = (l.map Rect.area).sum := by
  induction l with
  | nil => rfl
  | cons r l ih =>
    obtain ⟨hr, hl⟩ := List.pairwise_cons.mp h
    have hdisjoint : Disjoint r.cells (coveredCells l) := by
      rw [Finset.disjoint_left]
      rintro ⟨x, y⟩ hx hy
      obtain ⟨q, hq, hcell⟩ := (mem_coveredCells l x y).mp hy
      exact Finset.disjoint_left.mp (Rect.disjoint_cells r q (hr q hq)) hx hcell
    rw [coveredCells, Finset.card_union_of_disjoint hdisjoint, ih hl, Rect.card_cells, List.map_cons, List.sum_cons]

/-! ## The function modules -/

/-- The finder zones, the timing patterns between them, and the format modules with the dark module, of a symbol of side
`s` (42_matrix_builder.md R191 to R196). -/
def cornerRects (s : Nat) : List Rect :=
  [⟨0, 8, 0, 8⟩, ⟨s - 8, s, 0, 8⟩, ⟨0, 8, s - 8, s⟩, ⟨6, 7, 8, s - 8⟩, ⟨8, s - 8, 6, 7⟩, ⟨8, 9, s - 8, s⟩, ⟨s - 8, s, 8, 9⟩,
    ⟨8, 9, 0, 6⟩, ⟨8, 9, 7, 9⟩, ⟨0, 6, 8, 9⟩, ⟨7, 8, 8, 9⟩]

/-- The two version areas (42_matrix_builder.md R197). -/
def versionRects (v : Nat) : List Rect :=
  if v < 7 then [] else [⟨0, 6, side v - 11, side v - 8⟩, ⟨side v - 11, side v - 8, 0, 6⟩]

/-- The alignment pattern around `c`, without the timing pattern that may cross it (42_matrix_builder.md R194, R195). -/
def alignRects (c : Nat × Nat) : List Rect :=
  if c.1 = 6 then [⟨4, 6, c.2 - 2, c.2 + 3⟩, ⟨7, 9, c.2 - 2, c.2 + 3⟩]
  else if c.2 = 6 then [⟨c.1 - 2, c.1 + 3, 4, 6⟩, ⟨c.1 - 2, c.1 + 3, 7, 9⟩]
  else [⟨c.1 - 2, c.1 + 3, c.2 - 2, c.2 + 3⟩]

/-- The function modules of Frame(v), each in one rectangle. -/
def functionRects (v : Nat) : List Rect :=
  cornerRects (side v) ++ versionRects v ++ (alignCentres v).flatMap alignRects

/-- All 40 Versions: the rectangles are apart, and they leave the number of data modules of 45_rom_tables.md R310. -/
theorem functionRects_apart : ∀ v ≤ 40, 1 ≤ v → (functionRects v).Pairwise Rect.apart := by
  decide +kernel

theorem functionRects_area : ∀ v ≤ 40, 1 ≤ v → ((functionRects v).map Rect.area).sum + rawBits v = side v * side v := by
  decide +kernel

/-- The centres on column 6 and on row 6 lie between the finder zones, the others beyond them (45_rom_tables.md R312). -/
theorem alignCentres_bounds : ∀ v ≤ 40, ∀ c ∈ alignCentres v,
    (c.1 = 6 ∧ 22 ≤ c.2 ∧ c.2 + 23 ≤ side v) ∨ (c.2 = 6 ∧ 22 ≤ c.1 ∧ c.1 + 23 ≤ side v) ∨
      (18 ≤ c.1 ∧ 18 ≤ c.2 ∧ c.1 + 7 ≤ side v ∧ c.2 + 7 ≤ side v) := by
  decide +kernel

theorem finderDist_isSome (s x y : Nat) :
    (finderDist s x y).isSome = true ↔ (x ≤ 7 ∧ y ≤ 7) ∨ (s - 8 ≤ x ∧ y ≤ 7) ∨ (x ≤ 7 ∧ s - 8 ≤ y) := by
  unfold finderDist
  split_ifs <;> simp <;> omega

theorem versionBit_isSome (v x y : Nat) :
    (versionBit v x y).isSome = true ↔ 7 ≤ v ∧ ((x ≤ 5 ∧ side v - 11 ≤ y ∧ y ≤ side v - 9) ∨
      (y ≤ 5 ∧ side v - 11 ≤ x ∧ x ≤ side v - 9)) := by
  unfold versionBit
  dsimp only
  split_ifs <;> simp <;> omega

/-- A module is in an alignment pattern when it is within 2 of its centre (42_matrix_builder.md R194). -/
theorem alignDist_isSome (v x y : Nat) :
    (alignDist v x y).isSome = true ↔ ∃ c ∈ alignCentres v, absDiff x c.1 ≤ 2 ∧ absDiff y c.2 ≤ 2 := by
  simp [alignDist, List.find?_isSome, ringDist]

/-! ## The rectangles are the function modules -/

theorem covered_corner (s x y : Nat) (hs : 21 ≤ s) (hx : x < s) (hy : y < s) :
    (∃ r ∈ cornerRects s, (x, y) ∈ r.cells) ↔
      (finderDist s x y).isSome = true ∨ (x = 6 ∨ y = 6) ∨ (x = 8 ∧ y = s - 8) ∨ isFormat s x y = true := by
  rw [finderDist_isSome, isFormat_iff s x y hs]
  simp only [cornerRects, List.exists_mem_cons_iff, List.not_mem_nil, false_and, exists_false, or_false, Rect.mem_cells]
  constructor
  · rintro (h | h | h | h | h | h | h | h | h | h | h) <;> omega
  · rintro ((h | h | h) | (rfl | rfl) | ⟨rfl, rfl⟩ | ⟨rfl, h⟩ | ⟨rfl, h⟩)
    · exact .inl (by omega)
    · exact .inr (.inl (by omega))
    · exact .inr (.inr (.inl (by omega)))
    all_goals
      simp
      omega

theorem covered_version (v x y : Nat) (hv : 1 ≤ v) :
    (∃ r ∈ versionRects v, (x, y) ∈ r.cells) ↔ (versionBit v x y).isSome = true := by
  have hside := side_ge v hv
  rw [versionBit_isSome]
  by_cases h7 : v < 7
  · simp [versionRects, h7]
  · simp only [versionRects, if_neg h7, List.exists_mem_cons_iff, List.not_mem_nil, false_and, exists_false, or_false,
      Rect.mem_cells]
    omega

theorem covered_align (v x y : Nat) (hv : v ≤ 40) :
    (∃ r ∈ (alignCentres v).flatMap alignRects, (x, y) ∈ r.cells) ↔
      (alignDist v x y).isSome = true ∧ x ≠ 6 ∧ y ≠ 6 := by
  have hcentre : ∀ c ∈ alignCentres v, (∃ r ∈ alignRects c, (x, y) ∈ r.cells) ↔
      (absDiff x c.1 ≤ 2 ∧ absDiff y c.2 ≤ 2) ∧ x ≠ 6 ∧ y ≠ 6 := by
    intro c hc
    have hbounds := alignCentres_bounds v hv c hc
    unfold alignRects absDiff
    split_ifs <;>
      simp only [List.exists_mem_cons_iff, List.not_mem_nil, false_and, exists_false, or_false, Rect.mem_cells] <;>
      omega
  rw [alignDist_isSome]
  simp only [List.mem_flatMap]
  grind

/-- The rectangles hold exactly the function modules (42_matrix_builder.md R198). -/
theorem mem_functionRects (v x y : Nat) (hv : 1 ≤ v) (hv' : v ≤ 40) (hx : x < side v) (hy : y < side v) :
    (x, y) ∈ coveredCells (functionRects v) ↔ (frameModule v x y).func = true := by
  have hcorner := covered_corner (side v) x y (side_ge v hv) hx hy
  have hversion := covered_version v x y hv
  have halign := covered_align v x y hv'
  rw [mem_coveredCells, frameModule_func]
  simp only [functionRects, List.mem_append, or_and_right, exists_or, hcorner, hversion, halign]
  by_cases h6 : x = 6 ∨ y = 6
  · simp [h6]
  · have hne : x ≠ 6 ∧ y ≠ 6 := not_or.mp h6
    simp only [hne, false_or, and_true, or_comm, or_left_comm, or_assoc, ne_eq, not_false_eq_true]

theorem functionRects_inside : ∀ v ≤ 40, 1 ≤ v → ∀ r ∈ functionRects v, r.x1 ≤ side v ∧ r.y1 ≤ side v := by
  decide +kernel

theorem coveredCells_subset (v : Nat) (hv : 1 ≤ v) (hv' : v ≤ 40) :
    coveredCells (functionRects v) ⊆ Finset.range (side v) ×ˢ Finset.range (side v) := by
  rintro ⟨x, y⟩ h
  obtain ⟨r, hr, hcell⟩ := (mem_coveredCells _ x y).mp h
  have hin := functionRects_inside v hv' hv r hr
  rw [Rect.mem_cells] at hcell
  rw [Finset.mem_product, Finset.mem_range, Finset.mem_range]
  omega

/-! ## The length of PlaceOrder -/

theorem toFinset_placeOrder (v : Nat) (hv : 1 ≤ v) (hv' : v ≤ 40) :
    (placeOrder v).toFinset =
      (Finset.range (side v) ×ˢ Finset.range (side v)) \ coveredCells (functionRects v) := by
  ext ⟨x, y⟩
  rw [List.mem_toFinset, mem_placeOrder, Finset.mem_sdiff, Finset.mem_product, Finset.mem_range, Finset.mem_range]
  constructor
  · rintro ⟨hx, hy, hf⟩
    rw [mem_functionRects v x y hv hv' hx hy, hf]
    exact ⟨⟨hx, hy⟩, by decide⟩
  · rintro ⟨⟨hx, hy⟩, hf⟩
    rw [mem_functionRects v x y hv hv' hx hy, Bool.not_eq_true] at hf
    exact ⟨hx, hy, hf⟩

/-- PlaceOrder has rawbits(V) entries: the modules of the symbol less the areas of the rectangles. -/
theorem placeOrder_length (v : Nat) (hv : 1 ≤ v) (hv' : v ≤ 40) : (placeOrder v).length = rawBits v := by
  have harea := functionRects_area v hv' hv
  have hcard := Finset.card_sdiff_add_card_eq_card (coveredCells_subset v hv hv')
  rw [← toFinset_placeOrder v hv hv', List.toFinset_card_of_nodup (placeOrder_nodup v),
    card_coveredCells _ (functionRects_apart v hv' hv), Finset.card_product, Finset.card_range] at hcard
  omega

/-- The remainder bits by Version, as 42_matrix_builder.md R207 lists them. -/
theorem remainderBits_listed : ∀ v ≤ 40, 1 ≤ v → remainderBits v =
    if 2 ≤ v ∧ v ≤ 6 then 7
    else if (14 ≤ v ∧ v ≤ 20) ∨ (28 ≤ v ∧ v ≤ 34) then 3
    else if 21 ≤ v ∧ v ≤ 27 then 4
    else 0 := by
  decide

/-- Settles O57, from the number of data modules and its division by 8. -/
theorem placeOrderHasItsLength : Obligations.PlaceOrderHasItsLength := by
  refine ⟨by decide, by decide, fun v hv hv' => ⟨?_, remainderBits_listed v hv' hv⟩⟩
  rw [placeOrder_length v hv hv', totalCodewords, remainderBits, Nat.div_add_mod]

end Sys2Proof.Machine
end

section
/-! SUPPORT. The penalty is bounded, and the selection takes its first minimum (42_matrix_builder.md R211 to R216). -/

namespace Sys2Proof.Machine

/-! ## Bounds of the four rules -/

theorem sum_map_le {α : Type} (l : List α) (f : α → Nat) (b : Nat) (h : ∀ a ∈ l, f a ≤ b) :
    (l.map f).sum ≤ l.length * b := by
  simpa using List.sum_le_card_nsmul (l.map f) b (by simpa using h)

/-- The runs that follow a started run of `len` values hold those values and the rest of the line. -/
theorem runsFrom_sum (line : List Bool) (cur : Bool) (len : Nat) : (runsFrom cur len line).sum = len + line.length := by
  induction line generalizing cur len with
  | nil => simp [runsFrom]
  | cons c line ih =>
    rw [runsFrom, List.length_cons]
    split
    · rw [ih]; omega
    · rw [List.sum_cons, ih]; omega

/-- The runs of a line are the line. -/
theorem runLengths_sum (line : List Bool) : (runLengths line).sum = line.length := by
  cases line with
  | nil => rfl
  | cons c line => rw [runLengths, runsFrom_sum, List.length_cons, Nat.add_comm]

theorem runScore_le (r : Nat) : runScore r ≤ r := by
  unfold runScore Config.penN1
  split <;> omega

theorem lines_length (m : Matrix) (s : Nat) : (lines m s).length = 2 * s := by
  simp [lines]
  omega

theorem line_length (m : Matrix) (s : Nat) (line : List Bool) (h : line ∈ lines m s) : line.length = s := by
  simp only [lines, List.mem_append, List.mem_map] at h
  rcases h with ⟨i, -, rfl⟩ | ⟨i, -, rfl⟩
  · simp [darkRow]
  · simp [darkColumn]

/-- N1 is at most the number of modules in all lines (42_matrix_builder.md R211). -/
theorem penaltyRuns_le (m : Matrix) (s : Nat) : penaltyRuns m s ≤ 2 * s * s := by
  rw [← lines_length m s]
  refine sum_map_le _ _ s fun line h => ?_
  calc ((runLengths line).map runScore).sum
    _ ≤ ((runLengths line).map id).sum := List.sum_le_sum fun r _ => runScore_le r
    _ = s := by rw [List.map_id, runLengths_sum, line_length m s line h]

/-- N2 is at most 3 for each 2×2 block (42_matrix_builder.md R212). -/
theorem penaltyBlocks_le (m : Matrix) (s : Nat) : penaltyBlocks m s ≤ (s - 1) * (3 * (s - 1)) := by
  conv_rhs => rw [← List.length_range (n := s - 1)]
  refine sum_map_le _ _ _ fun y _ => Nat.mul_le_mul_left 3 List.countP_le_length

/-- N3 is at most 40 for each window of each line (42_matrix_builder.md R213). -/
theorem penaltyFinderLike_le (m : Matrix) (s : Nat) : penaltyFinderLike m s ≤ 2 * s * (40 * (s - 10)) := by
  rw [← lines_length m s]
  conv_rhs => rw [← List.length_range (n := s - 10)]
  exact sum_map_le _ _ _ fun line _ => Nat.mul_le_mul_left 40 List.countP_le_length

theorem darkCount_le (m : Matrix) (s : Nat) : darkCount m s ≤ s * s := by
  conv_rhs => arg 1; rw [← List.length_range (n := s)]
  refine sum_map_le _ _ s fun y _ => List.countP_le_length.trans ?_
  simp [darkRow]

/-- N4 is at most 100: the dark modules are all at most (42_matrix_builder.md R214). -/
theorem penaltyBalance_le (m : Matrix) (s : Nat) : penaltyBalance m s ≤ 100 := by
  have hdark := darkCount_le m s
  have hratio : absDiff (20 * darkCount m s) (10 * (s * s)) / (s * s) ≤ 10 :=
    Nat.div_le_of_le_mul (by unfold absDiff; omega)
  unfold penaltyBalance Config.penN4
  omega

/-- Settles O29, from the bounds of the four rules at the largest side. -/
theorem penaltyFitsRegister : Obligations.PenaltyFitsRegister := by
  intro m s _ hs
  have hruns : 2 * s * s ≤ 2 * 177 * 177 := by gcongr
  have hblocks : (s - 1) * (3 * (s - 1)) ≤ 176 * (3 * 176) := by gcongr <;> omega
  have hfinder : 2 * s * (40 * (s - 10)) ≤ 2 * 177 * (40 * 167) := by gcongr; omega
  have h1 := penaltyRuns_le m s
  have h2 := penaltyBlocks_le m s
  have h3 := penaltyFinderLike_le m s
  have h4 := penaltyBalance_le m s
  unfold penalty
  omega

/-! ## Selection -/

/-- `best` is the first minimum of `p` below `n`. -/
def firstMinimum (p : Nat → Nat) (n best : Nat) : Prop := best < n ∧ (∀ m < n, p best ≤ p m) ∧ ∀ m < best, p best < p m

/-- After index n the loop of the selection holds the first minimum up to n (42_matrix_builder.md R216). -/
theorem firstMinimum_foldl (p : Nat → Nat) (n : Nat) :
    firstMinimum p (n + 1) ((List.range (n + 1)).foldl (fun best m => if p m < p best then m else best) 0) := by
  induction n with
  | zero => exact ⟨by simp, fun m hm => by simp [Nat.lt_one_iff.mp hm], fun m hm => absurd hm (by simp)⟩
  | succ n ih =>
    rw [List.range_succ, List.foldl_concat]
    generalize (List.range (n + 1)).foldl (fun best m => if p m < p best then m else best) 0 = best at ih ⊢
    obtain ⟨hlt, hmin, hfirst⟩ := ih
    split
    case isTrue h =>
      refine ⟨by omega, fun m hm => ?_, fun m hm => h.trans_le (hmin m hm)⟩
      rcases Nat.lt_succ_iff_lt_or_eq.mp hm with hm | rfl
      · exact h.le.trans (hmin m hm)
      · exact le_rfl
    case isFalse h =>
      refine ⟨by omega, fun m hm => ?_, hfirst⟩
      rcases Nat.lt_succ_iff_lt_or_eq.mp hm with hm | rfl
      · exact hmin m hm
      · exact not_lt.mp h

theorem selectMask_firstMinimum (p : Nat → Nat) : firstMinimum p 8 (selectMask p) := firstMinimum_foldl p 7

/-- Settles O30: the loop of the selection ends with the first minimum of all eight scores. -/
theorem selectionIsSmallestMinimum : Obligations.SelectionIsSmallestMinimum := selectMask_firstMinimum

end Sys2Proof.Machine
end

section
/-! SUPPORT. MAT_FRAME, MAT_EVAL and MAT_MASK: the modules and scores they leave (42_matrix_builder.md R220, R222, R223). -/

namespace Sys2Proof.Machine

/-! ## Modules after a matrix was stored -/

/-- A byte that belongs to no module of the stored array stays. -/
theorem byteAt_storeMatrix_of_not_module (m : Matrix) (n : Nat) (s : State) (hn : n ≤ 177) (a : Nat)
    (ha : ¬isModuleAddr n a) : (storeMatrix m n s).byteAt a = s.byteAt a := by
  have hmin : min n Config.matDim = n := min_eq_left hn
  refine byteAt_storeMatrix_outside m n s a (Bool.eq_false_iff.mpr fun hin => ha ?_)
  rw [hmin] at hin
  exact (inSymbol_iff n a (by omega)).mp hin

/-- A module of an array stored whole. -/
theorem moduleAt_storeMatrix_inside (m : Matrix) (n : Nat) (s : State) (hn : n ≤ 177) (x y : Nat) (hx : x < n) (hy : y < n) :
    (storeMatrix m n s).moduleAt x y = matGet m x y := by
  have hmin : min n Config.matDim = n := min_eq_left hn
  rw [moduleAt_storeMatrix _ _ _ _ _ (by omega), hmin, if_pos ⟨hx, hy⟩]

theorem moduleAt_storeMatrix_beyond (m : Matrix) (n : Nat) (s : State) (hn : n ≤ 177) (x y : Nat) (hx : x < 177)
    (h : ¬(x < n ∧ y < n)) : (storeMatrix m n s).moduleAt x y = s.moduleAt x y := by
  have hmin : min n Config.matDim = n := min_eq_left hn
  rw [moduleAt_storeMatrix _ _ _ _ _ (by omega), hmin, if_neg h]

theorem matTabulate_congr (n : Nat) (f g : Nat → Nat → QrModule) (h : ∀ x y, x < n → y < n → f x y = g x y) :
    matTabulate n f = matTabulate n g := by
  unfold matTabulate
  refine List.map_congr_left fun y hy => List.map_congr_left fun x hx => ?_
  exact h x y (List.mem_range.mp hx) (List.mem_range.mp hy)

/-- A stored array is read back as it was. -/
theorem readMatrix_storeMatrix (f : Nat → Nat → QrModule) (n : Nat) (s : State) (hn : n ≤ 177) :
    (storeMatrix (matTabulate n f) n s).readMatrix n = matTabulate n f := by
  refine matTabulate_congr n _ _ fun x y hx hy => ?_
  rw [moduleAt_storeMatrix_inside _ _ _ hn x y hx hy, matGet_matTabulate, if_pos ⟨hx, hy⟩]

/-! ## MAT_FRAME -/

/-- After MAT_FRAME the whole array is the frame and blank modules around it (42_matrix_builder.md R220). -/
theorem moduleAt_frameWrites (s : State) (x y : Nat) (hx : x < 177) (hy : y < 177) :
    (frameWrites s).moduleAt x y = framedModule s.versionOperand x y := by
  have hdim : Config.matDim = 177 := rfl
  rw [State.moduleAt, byteAt_frameWrites, hdim, ← State.moduleAt, moduleAt_storeMatrix_inside _ _ _ le_rfl x y hx hy,
    matGet_matTabulate, if_pos ⟨hx, hy⟩]

theorem versionCheck_fails (s : State) (h : ¬(1 ≤ s.version.toNat ∧ s.version.toNat ≤ 40)) :
    versionCheck s = some .unexpectedInput :=
  (versionCheck_some s _).mpr ⟨Bool.eq_false_iff.mpr (mt (legalVersion_iff _).mp h), rfl⟩

theorem versionCheck_passes (s : State) (h : 1 ≤ s.version.toNat ∧ s.version.toNat ≤ 40) : versionCheck s = none :=
  (versionCheck_none s).mpr ((legalVersion_iff _).mpr h)

/-- Settles O31, by the two outcomes of the Version check. -/
theorem matFrameWritesFrame : Obligations.MatFrameWritesFrame := by
  refine ⟨rfl, fun s hr hv hv' => ?framed, fun s hr hv => ?failed⟩
  case framed =>
    refine ⟨frameWrites s, runCommand_succeeds _ _ s hr (versionCheck_passes s ⟨hv, hv'⟩), rfl, fun x y hx hy => ?_,
      fun a ha => ?_⟩
    · exact moduleAt_frameWrites s x y hx hy
    · rw [byteAt_frameWrites]
      exact byteAt_storeMatrix_of_not_module _ _ s le_rfl a ha
  case failed => exact runCommand_fails _ _ s _ hr (versionCheck_fails s hv)

/-! ## Scores -/

/-- The scores after `PENm <- p` (42_matrix_builder.md R222, R223). -/
theorem penAt_recorded (s t : State) (m j : Nat) (p : Word) (hm : m < 8) (h : t.pen = s.pen.setIfInBounds m p) :
    t.penAt j = if j = m then p else s.penAt j := by
  rw [State.penAt, h]
  split
  case isTrue hj => simp [hj, hm]
  case isFalse hj => exact penAt_setIfInBounds_ne _ _ _ _ hj

theorem penAt_evalWrites (s : State) (m j : Nat) (hm : m < 8) :
    (evalWrites m s).penAt j = if j = m then s.candidatePenalty m else s.penAt j :=
  penAt_recorded s _ m j _ hm (evalWrites_pen m s)

theorem penAt_maskWrites (s : State) (m j : Nat) (hm : m < 8) :
    (maskWrites m s).penAt j = if j = m then s.candidatePenalty m else s.penAt j :=
  penAt_recorded s _ m j _ hm (maskWrites_pen m s)

/-! ## MAT_EVAL -/

theorem encode_matEval_toNat (m : Nat) (hm : m < 8) : (encode (.matEval m)).toNat = 0x22 + 256 * m := by
  rw [encode, BitVec.toNat_ofNat]
  omega

theorem encode_matMask_toNat (m : Nat) (hm : m < 8) : (encode (.matMask m)).toNat = 0x23 + 256 * m := by
  rw [encode, BitVec.toNat_ofNat]
  omega

/-- PENV after a score was recorded: its bit is 1, the others stay (42_matrix_builder.md R222). -/
theorem setPenv_bits (penv : BitVec 8) (m : Nat) (hm : m < 8) :
    (setPenv penv m).getLsbD m = true ∧ ∀ j, j < 8 → j ≠ m → (setPenv penv m).getLsbD j = penv.getLsbD j := by
  refine ⟨by simp [getLsbD_setPenv _ _ _ hm], fun j hj hne => ?_⟩
  simp [getLsbD_setPenv _ _ _ hj, hne]

theorem placedCheck_fails (s : State) (h : s.mstate ≠ .placed) : placedCheck s = some .noSymbolProduced :=
  (placedCheck_some s _).mpr ⟨h, rfl⟩

/-- Settles O33, by the two outcomes of the phase check. -/
theorem matEvalScoresCandidate : Obligations.MatEvalScoresCandidate := by
  refine ⟨encode_matEval_toNat, fun s m hr hp hm => ?scored, fun s m hr hp => ?failed⟩
  case scored =>
    obtain ⟨hbit, hbits⟩ := setPenv_bits s.penv m hm
    refine ⟨evalWrites m s, runCommand_succeeds _ _ s hr ((placedCheck_none s).mpr hp), rfl, ?_, hbit, fun j hj hne => ?_⟩
    · rw [penAt_evalWrites s m m hm, if_pos rfl]
      rfl
    · exact ⟨by rw [penAt_evalWrites s m j hm, if_neg hne], hbits j hj hne⟩
  case failed => exact runCommand_fails _ _ s _ hr (placedCheck_fails s hp)

/-! ## MAT_MASK -/

/-- The candidate as an array: the data modules masked, the format word written (42_matrix_builder.md R210). -/
theorem candidate_eq (s : State) (m : Nat) :
    s.candidate m =
      writeFormat (matTabulate s.latchedSize fun x y => maskModule m x y (matGet (s.readMatrix s.latchedSize) x y))
        s.latchedSize (formatWord s.latchedLevel m) := rfl

/-- A candidate is a square array, so MAT holds all of it. -/
theorem candidate_square (s : State) (m : Nat) : ∃ g, s.candidate m = matTabulate s.latchedSize g := by
  rw [candidate_eq, writeFormat_eq_setDarks]
  exact setDarks_matTabulate _ _ _ _

section

variable (s : State) (m x y : Nat)

theorem matGet_candidate_other (hx : x < s.latchedSize) (hy : y < s.latchedSize) (h : isFormat s.latchedSize x y = false) :
    matGet (s.candidate m) x y = maskModule m x y (s.moduleAt x y) := by
  rw [candidate_eq, matGet_writeFormat_other _ _ _ x y hx hy h, matGet_readMatrix, if_pos ⟨hx, hy⟩]

theorem maskModule_func (q : QrModule) : (maskModule m x y q).func = q.func := by
  unfold maskModule
  split <;> rfl

theorem matGet_candidate_func (hx : x < s.latchedSize) (hy : y < s.latchedSize) :
    (matGet (s.candidate m) x y).func = (s.moduleAt x y).func := by
  rw [candidate_eq, matGet_writeFormat_func _ _ _ x y hx hy, maskModule_func, matGet_readMatrix, if_pos ⟨hx, hy⟩]

theorem matGet_candidate_format (hs : 21 ≤ s.latchedSize) (c : (Nat × Nat) × Nat) (hc : c ∈ formatCells s.latchedSize) :
    matGet (s.candidate m) c.1.1 c.1.2 =
      ⟨(formatWord s.latchedLevel m).getLsbD c.2, (s.moduleAt c.1.1 c.1.2).func⟩ := by
  obtain ⟨hx, hy⟩ := isFormat_lt _ _ _ hs (isFormat_of_mem _ c hc)
  have hfunc := matGet_candidate_func s m _ _ hx hy
  rw [candidate_eq, matGet_writeFormat_format _ _ _ hs c hc] at hfunc ⊢
  exact congrArg _ hfunc

/-- After MAT_MASK the symbol is the candidate (42_matrix_builder.md R223). -/
theorem moduleAt_maskWrites (hs : s.latchedSize ≤ 177) (hx : x < s.latchedSize) (hy : y < s.latchedSize) :
    (maskWrites m s).moduleAt x y = matGet (s.candidate m) x y := by
  rw [State.moduleAt, byteAt_maskWrites, ← State.moduleAt, moduleAt_storeMatrix_inside _ _ _ hs x y hx hy]

theorem moduleAt_maskWrites_beyond (hs : s.latchedSize ≤ 177) (hx : x < 177)
    (h : ¬(x < s.latchedSize ∧ y < s.latchedSize)) : (maskWrites m s).moduleAt x y = s.moduleAt x y := by
  rw [State.moduleAt, byteAt_maskWrites, ← State.moduleAt, moduleAt_storeMatrix_beyond _ _ _ hs x y hx h]

theorem readMatrix_maskWrites (hs : s.latchedSize ≤ 177) :
    (maskWrites m s).readMatrix s.latchedSize = s.candidate m := by
  obtain ⟨g, hg⟩ := candidate_square s m
  have hread : (maskWrites m s).readMatrix s.latchedSize =
      (storeMatrix (s.candidate m) s.latchedSize s).readMatrix s.latchedSize :=
    readMatrix_congr _ _ _ (maskWrites_mem m s) (by simp)
  rw [hread, hg, readMatrix_storeMatrix g _ s hs]

end

/-- Settles O34, by the two outcomes of the phase check. -/
theorem matMaskAppliesMask : Obligations.MatMaskAppliesMask := by
  refine ⟨encode_matMask_toNat, fun s m n hr hp hm hn hlow hhigh => ?masked, fun s m hr hp => ?failed⟩
  case masked =>
    subst hn
    obtain ⟨hbit, hbits⟩ := setPenv_bits s.penv m hm
    have hpen : (maskWrites m s).penAt m = s.candidatePenalty m := by rw [penAt_maskWrites s m m hm, if_pos rfl]
    refine ⟨maskWrites m s, runCommand_succeeds _ _ s hr ((placedCheck_none s).mpr hp), ?_, fun x y hx hy hf => ?_,
      fun c hc => ?_, ?_, hbit, fun j hj hne => ⟨?_, hbits j hj hne⟩, fun a ha => ?_⟩
    · rw [hpen]
      rfl
    · rw [moduleAt_maskWrites s m x y hhigh hx hy, matGet_candidate_other s m x y hx hy hf, maskModule]
      cases s.moduleAt x y with
      | mk dark func => cases func <;> rfl
    · obtain ⟨hx, hy⟩ := isFormat_lt _ _ _ hlow (isFormat_of_mem _ c hc)
      rw [moduleAt_maskWrites s m _ _ hhigh hx hy, matGet_candidate_format s m hlow c hc]
      rfl
    · rw [hpen]
      exact congrArg (fun q => BitVec.ofNat 32 (penalty q s.msize.toNat)) (readMatrix_maskWrites s m hhigh).symm
    · rw [penAt_maskWrites s m j hm, if_neg hne]
    · rw [byteAt_maskWrites]
      exact byteAt_storeMatrix_of_not_module _ _ s hhigh a ha
  case failed => exact runCommand_fails _ _ s _ hr (placedCheck_fails s hp)

end Sys2Proof.Machine
end

section
/-! SUPPORT. MAT_PLACE: the codeword sequence column by column, and the bytes and modules it leaves
(42_matrix_builder.md R205, R207, R221). -/

namespace Sys2Proof.Machine

/-! ## The codeword sequence -/

/-- The blocks share out the data codewords, and data and EC codewords are the symbol's (41_rs_encoder.md R158). -/
abbrev BlockSpec.shared (b : BlockSpec) : Prop :=
  b.nb = b.b1 + b.b2 ∧ b.dataLen = b.k1 * b.nb + b.b2 ∧ b.total = b.dataLen + b.n * b.nb

/-- All 160 rows of the block table (45_rom_tables.md R311). -/
theorem blockSpec_shared : ∀ v ≤ 40, 1 ≤ v → ∀ l < 4, (blockSpec v l).shared := by
  decide +kernel

section

variable (b : BlockSpec) (s : State)

/-- A column of data codewords that every block reaches. -/
def dataColumn (i : Nat) : List Byte := (List.range b.nb).map fun j => s.dbuf (b.start j + i)

/-- The column of data codewords that the longer blocks alone reach. -/
def lastColumn : List Byte := (List.range b.b2).map fun j => s.dbuf (b.start (b.b1 + j) + b.k1)

/-- A column of EC codewords. -/
def ecColumn (i : Nat) : List Byte := (List.range b.nb).map fun j => s.ebuf (j * b.n + i)

/-- A column of data codewords as `interleave` collects it (42_matrix_builder.md R205). -/
def reachedColumn (i : Nat) : List Byte :=
  (List.range b.nb).flatMap fun j => if i < b.len j then [s.dbuf (b.start j + i)] else []

theorem reachedColumn_of_lt (i : Nat) (hi : i < b.k1) : reachedColumn b s i = dataColumn b s i := by
  unfold reachedColumn dataColumn
  rw [List.map_eq_flatMap]
  refine List.flatMap_congr fun j _ => if_pos ?_
  unfold BlockSpec.len
  split <;> omega

theorem reachedColumn_last (hnb : b.nb = b.b1 + b.b2) : reachedColumn b s b.k1 = lastColumn b s := by
  have hshort : ∀ j ∈ List.range b.b1,
      (if b.k1 < b.len j then [s.dbuf (b.start j + b.k1)] else []) = [] := fun j hj =>
    if_neg (by simp [BlockSpec.len, List.mem_range.mp hj])
  have hlong : ∀ j ∈ List.range b.b2,
      (if b.k1 < b.len (b.b1 + j) then [s.dbuf (b.start (b.b1 + j) + b.k1)] else []) =
        [s.dbuf (b.start (b.b1 + j) + b.k1)] := fun j _ => if_pos (by simp [BlockSpec.len])
  rw [reachedColumn, lastColumn, hnb, List.range_add, List.flatMap_append, List.flatMap_eq_nil_iff.mpr hshort,
    List.nil_append, List.flatMap_map, List.flatMap_congr hlong, List.map_eq_flatMap]

/-- The codeword sequence as columns (42_matrix_builder.md R205). -/
theorem interleave_eq_columns (hnb : b.nb = b.b1 + b.b2) :
    interleave b s =
      ((List.range b.k1).flatMap (dataColumn b s) ++ lastColumn b s) ++ (List.range b.n).flatMap (ecColumn b s) := by
  have hfull : (List.range b.k1).flatMap (reachedColumn b s) = (List.range b.k1).flatMap (dataColumn b s) :=
    List.flatMap_congr fun i hi => reachedColumn_of_lt b s i (List.mem_range.mp hi)
  have hdata : (List.range (if 0 < b.b2 then b.k1 + 1 else b.k1)).flatMap (reachedColumn b s) =
      (List.range b.k1).flatMap (dataColumn b s) ++ lastColumn b s := by
    split
    case isTrue h =>
      rw [List.range_succ, List.flatMap_append, List.flatMap_singleton, hfull, reachedColumn_last b s hnb]
    case isFalse h =>
      rw [hfull, lastColumn, Nat.eq_zero_of_not_pos h, List.range_zero, List.map_nil, List.append_nil]
  exact congrArg (· ++ _) hdata

theorem dataColumns_length (k : Nat) : ((List.range k).flatMap (dataColumn b s)).length = k * b.nb := by
  simp [List.length_flatMap, dataColumn]

theorem ecColumns_length (k : Nat) : ((List.range k).flatMap (ecColumn b s)).length = k * b.nb := by
  simp [List.length_flatMap, ecColumn]

theorem lastColumn_length : (lastColumn b s).length = b.b2 := by
  simp [lastColumn]

theorem dataPart_length (h : b.shared) :
    ((List.range b.k1).flatMap (dataColumn b s) ++ lastColumn b s).length = b.dataLen := by
  obtain ⟨-, hdata, -⟩ := h
  rw [List.length_append, dataColumns_length, lastColumn_length, hdata]

/-- The sequence has T codewords. -/
theorem interleave_length (h : b.shared) : (interleave b s).length = b.total := by
  obtain ⟨hnb, -, htotal⟩ := id h
  rw [interleave_eq_columns b s hnb, List.length_append, dataPart_length b s h, ecColumns_length, htotal]

theorem getD_map_range (f : Nat → Byte) (n j : Nat) (hj : j < n) : ((List.range n).map f).getD j 0 = f j := by
  simp [List.getD_eq_getElem?_getD, hj]

/-- Where byte `i` of data block `j` stands in the sequence (42_matrix_builder.md R205). -/
def BlockSpec.dataIndex (i j : Nat) : Nat := if i < b.k1 then i * b.nb + j else b.k1 * b.nb + (j - b.b1)

theorem getD_interleave_data (h : b.shared) (i j : Nat) (hj : j < b.nb) (hi : i < b.len j) :
    b.dataIndex i j < b.dataLen ∧ (interleave b s).getD (b.dataIndex i j) 0 = s.dbuf (b.start j + i) := by
  obtain ⟨hnb, hdata, -⟩ := id h
  have hlen := dataPart_length b s h
  unfold BlockSpec.len at hi
  unfold BlockSpec.dataIndex
  rw [interleave_eq_columns b s hnb]
  split
  case isTrue hik =>
    have hin := piece_index_lt b.nb b.k1 i j hik hj
    refine ⟨by omega, ?_⟩
    rw [List.getD_append _ _ _ _ (by omega), List.getD_append _ _ _ _ (by rwa [dataColumns_length]),
      getD_flatMap_range _ b.nb b.k1 i j (by simp [dataColumn]) hik hj]
    exact getD_map_range _ _ j hj
  case isFalse hik =>
    have hlong : b.b1 ≤ j ∧ i = b.k1 := by split at hi <;> omega
    refine ⟨by omega, ?_⟩
    rw [List.getD_append _ _ _ _ (by omega), List.getD_append_right _ _ _ _ (by rw [dataColumns_length]; omega),
      dataColumns_length, Nat.add_sub_cancel_left, lastColumn, getD_map_range _ _ _ (by omega),
      Nat.add_sub_cancel' hlong.1, hlong.2]

theorem getD_interleave_ec (h : b.shared) (i j : Nat) (hj : j < b.nb) (hi : i < b.n) :
    b.dataLen + i * b.nb + j < b.total ∧
      (interleave b s).getD (b.dataLen + i * b.nb + j) 0 = s.ebuf (j * b.n + i) := by
  obtain ⟨hnb, -, htotal⟩ := id h
  have hin := piece_index_lt b.nb b.n i j hi hj
  refine ⟨by omega, ?_⟩
  rw [interleave_eq_columns b s hnb, List.getD_append_right _ _ _ _ (by rw [dataPart_length b s h]; omega),
    dataPart_length b s h, Nat.add_assoc, Nat.add_sub_cancel_left,
    getD_flatMap_range _ b.nb b.n i j (by simp [ecColumn]) hi hj]
  exact getD_map_range _ _ j hj

end

/-! ## Bytes and modules after MAT_PLACE -/

section

variable (s : State)

theorem placedCodewords_length (hv : legalVersion s.latchedVersion = true) :
    s.placedCodewords.length = totalCodewords s.latchedVersion := by
  obtain ⟨hlow, hhigh⟩ := (legalVersion_iff _).mp hv
  exact interleave_length _ s (blockSpec_shared _ hhigh hlow _ s.level.isLt)

/-- No module stands at an address of CWBUF (20_memory.md R76). -/
theorem not_isModuleAddr_cwbuf (n i : Nat) (hi : i < 4096) : ¬isModuleAddr n (Config.cwbufBase + i) := by
  rintro ⟨x, y, -, -, h⟩
  unfold matAddr Config.matBase Config.cwbufBase at h
  omega

/-- CWBUF holds the codeword sequence (42_matrix_builder.md R221). -/
theorem cwbuf_placeWrites (hv : legalVersion s.latchedVersion = true) (i : Nat)
    (hi : i < totalCodewords s.latchedVersion) : (placeWrites s).cwbuf i = s.placedCodewords.getD i 0 := by
  have hT := totalCodewords_le _ ((legalVersion_iff _).mp hv).2
  rw [State.cwbuf, byteAt_placeWrites,
    byteAt_storeMatrix_of_not_module _ _ _ (side_le _ hv) _ (not_isModuleAddr_cwbuf _ i (by omega))]
  exact byteAt_storeBytes_inside _ _ s i (by rwa [placedCodewords_length s hv])

theorem byteAt_placeWrites_other (hv : legalVersion s.latchedVersion = true) (a : Nat)
    (hcw : ¬(Config.cwbufBase ≤ a ∧ a < Config.cwbufBase + totalCodewords s.latchedVersion))
    (hmat : ¬isModuleAddr (side s.latchedVersion) a) : (placeWrites s).byteAt a = s.byteAt a := by
  rw [byteAt_placeWrites, byteAt_storeMatrix_of_not_module _ _ _ (side_le _ hv) _ hmat]
  exact byteAt_storeBytes_outside _ _ s a (by rwa [placedCodewords_length s hv])

/-- After MAT_PLACE the symbol is what Place makes of MAT (42_matrix_builder.md R208, R221). -/
theorem moduleAt_placeWrites (hv : legalVersion s.latchedVersion = true) (x y : Nat) (hx : x < side s.latchedVersion)
    (hy : y < side s.latchedVersion) :
    (placeWrites s).moduleAt x y =
      matGet (place s.latchedVersion (matTabulate (side s.latchedVersion) s.moduleAt) s.placedCodewords) x y := by
  rw [State.moduleAt, byteAt_placeWrites, ← State.moduleAt, moduleAt_storeMatrix_inside _ _ _ (side_le _ hv) x y hx hy]
  rfl

/-- The bytes of the MAT window are none of CWBUF's, so beyond the symbol MAT_PLACE keeps MAT. -/
theorem moduleAt_placeWrites_beyond (hv : legalVersion s.latchedVersion = true) (x y : Nat) (hx : x < 177)
    (h : ¬(x < side s.latchedVersion ∧ y < side s.latchedVersion)) :
    (placeWrites s).moduleAt x y = s.moduleAt x y := by
  have hT := totalCodewords_le _ ((legalVersion_iff _).mp hv).2
  have hside := side_le _ hv
  refine congrArg QrModule.ofByte (byteAt_placeWrites_other s hv _ ?_ ?_)
  · unfold matAddr Config.matBase Config.cwbufBase
    omega
  · rintro ⟨u, w, hu, hw, heq⟩
    obtain ⟨rfl, rfl⟩ := matAddr_inj x y u w (by omega) (by omega) heq
    exact h ⟨hu, hw⟩

theorem moduleAt_placeWrites_data (hv : legalVersion s.latchedVersion = true) (p : (Nat × Nat) × Nat)
    (hp : p ∈ (placeOrder s.latchedVersion).zipIdx) :
    (placeWrites s).moduleAt p.1.1 p.1.2 =
      { s.moduleAt p.1.1 p.1.2 with dark := codewordBit s.placedCodewords p.2 } := by
  obtain ⟨hx, hy, -⟩ := (mem_placeOrder _ _ _).mp (mem_placeOrder_of_zipIdx _ p hp)
  rw [moduleAt_placeWrites s hv _ _ hx hy, matGet_place_data _ _ _ p hp]

theorem moduleAt_placeWrites_format (hv : legalVersion s.latchedVersion = true) (c : (Nat × Nat) × Nat)
    (hc : c ∈ formatCells (side s.latchedVersion)) :
    (placeWrites s).moduleAt c.1.1 c.1.2 = { s.moduleAt c.1.1 c.1.2 with dark := false } := by
  have hlow := ((legalVersion_iff _).mp hv).1
  obtain ⟨hx, hy⟩ := isFormat_lt _ _ _ (side_ge _ hlow) (isFormat_of_mem _ c hc)
  rw [moduleAt_placeWrites s hv _ _ hx hy, matGet_place_format _ _ _ hlow c hc]

theorem moduleAt_placeWrites_kept (hv : legalVersion s.latchedVersion = true) (x y : Nat)
    (hx : x < side s.latchedVersion) (hy : y < side s.latchedVersion) (h : (x, y) ∉ placeOrder s.latchedVersion)
    (hfmt : isFormat (side s.latchedVersion) x y = false) : (placeWrites s).moduleAt x y = s.moduleAt x y := by
  rw [moduleAt_placeWrites s hv x y hx hy, matGet_place_kept _ _ _ x y hx hy h hfmt]

end

/-- The registers after MAT_PLACE (42_matrix_builder.md R221). -/
theorem placeWrites_registers (s : State) :
    placeWrites s =
      { s with
        mem := (placeWrites s).mem, cwlen := BitVec.ofNat 12 (totalCodewords s.mver.toNat), mlevel := s.level,
        mstate := .placed, penv := 0, pen := Vector.replicate 8 0, maskSel := 0, penSel := 0 } := by
  simp only [placeWrites, dropScores, storeMatrix, storeBytes, State.latchedVersion]

/-- Settles O32, by the two outcomes of the phase check. -/
theorem matPlaceWritesCodewords : Obligations.MatPlaceWritesCodewords := by
  refine ⟨?placed, fun s hr hp => ?failed⟩
  case placed =>
    rintro s _ _ _ hr hp rfl hlow hhigh rfl rfl
    have hv : legalVersion s.latchedVersion = true := (legalVersion_iff _).mpr ⟨hlow, hhigh⟩
    have hb : (blockSpec s.mver.toNat s.level.toNat).shared := blockSpec_shared _ hhigh hlow _ s.level.isLt
    obtain ⟨-, -, htotal⟩ := id hb
    refine ⟨placeWrites s, runCommand_succeeds _ _ s hr ((placeCheck_none s).mpr hp), placeWrites_registers s,
      placedCodewords_length s hv, cwbuf_placeWrites s hv, fun j i hj hi => ?_, fun j i hj hi => ?_, moduleAt_placeWrites_data s hv,
      moduleAt_placeWrites_format s hv, moduleAt_placeWrites_kept s hv, byteAt_placeWrites_other s hv⟩
    · obtain ⟨hlt, hbyte⟩ := getD_interleave_data _ s hb i j hj hi
      have hle : (blockSpec s.mver.toNat s.level.toNat).dataLen ≤ (blockSpec s.mver.toNat s.level.toNat).total :=
        (Nat.le_add_right _ _).trans htotal.ge
      exact (cwbuf_placeWrites s hv _ (hlt.trans_le hle)).trans hbyte
    · obtain ⟨hlt, hbyte⟩ := getD_interleave_ec _ s hb i j hj hi
      exact (cwbuf_placeWrites s hv _ hlt).trans hbyte
  case failed => exact runCommand_fails _ _ s _ hr ((placeCheck_some s _).mpr ⟨hp, rfl⟩)

end Sys2Proof.Machine
end

section
/-! SUPPORT. MAT_BUILD is the sequence of the commands it stands for (42_matrix_builder.md R224). -/

namespace Sys2Proof.Machine

/-! ## The eight evaluations -/

/-- The evaluations of the masks `l` in order. -/
def evalMasks (l : List Nat) (s : State) : State := l.foldl (fun t m => evalWrites m t) s

theorem evalAllWrites_eq (s : State) : evalAllWrites s = evalMasks (List.range 8) s := rfl

/-- MAT_EVAL writes scores, which no candidate depends on (42_matrix_builder.md R222). -/
theorem candidatePenalty_evalWrites (s : State) (m j : Nat) : (evalWrites m s).candidatePenalty j = s.candidatePenalty j :=
  rfl

theorem candidatePenalty_evalAllWrites (s : State) (j : Nat) :
    (evalAllWrites s).candidatePenalty j = s.candidatePenalty j :=
  evalAllWrites_keeps (fun t => t.candidatePenalty j = s.candidatePenalty j)
    (fun m t h => (candidatePenalty_evalWrites t m j).trans h) s rfl

/-- Each evaluated mask has its candidate's score, the others the score they had. -/
theorem penAt_evalMasks (l : List Nat) (hl : ∀ m ∈ l, m < 8) (s : State) (j : Nat) :
    (evalMasks l s).penAt j = if j ∈ l then s.candidatePenalty j else s.penAt j := by
  induction l generalizing s with
  | nil => simp [evalMasks]
  | cons m l ih =>
    obtain ⟨hm, hl⟩ := List.forall_mem_cons.mp hl
    show (evalMasks l (evalWrites m s)).penAt j = _
    rw [ih hl, candidatePenalty_evalWrites, penAt_evalWrites s m j hm]
    by_cases hj : j = m <;> simp [hj]

theorem penAt_evalAllWrites (s : State) (j : Nat) (hj : j < 8) : (evalAllWrites s).penAt j = s.candidatePenalty j := by
  rw [evalAllWrites_eq, penAt_evalMasks _ (fun m => List.mem_range.mp), if_pos (List.mem_range.mpr hj)]

theorem penv_evalMasks (l : List Nat) (s : State) : (evalMasks l s).penv = l.foldl setPenv s.penv := by
  induction l generalizing s with
  | nil => rfl
  | cons m l ih => exact (ih (evalWrites m s)).trans (by rw [evalWrites_penv, List.foldl_cons])

/-- After the eight evaluations of a placed matrix every score is valid (42_matrix_builder.md R224). -/
theorem penv_evalAllWrites (s : State) (h : s.penv = 0) : (evalAllWrites s).penv = 0xFF := by
  rw [evalAllWrites_eq, penv_evalMasks, h]
  decide

/-- The evaluations change scores and their valid bits alone. -/
theorem evalAllWrites_registers (s : State) :
    evalAllWrites s = { s with pen := (evalAllWrites s).pen, penv := (evalAllWrites s).penv } :=
  evalAllWrites_keeps (fun t => t = { s with pen := t.pen, penv := t.penv })
    (fun m t h => congrArg (fun u : State => { u with pen := (evalWrites m t).pen, penv := (evalWrites m t).penv }) h) s rfl

/-- On a placed matrix the MAT_EVAL commands all succeed. -/
theorem execAll_matEval (l : List Nat) (s : State) (hr : s.result = 0) (hp : s.mstate = .placed) :
    execAll (l.map .matEval) s = .next (evalMasks l s) := by
  induction l generalizing s with
  | nil => rfl
  | cons m l ih =>
    rw [List.map_cons, execAll, exec_matEval, runCommand_succeeds _ _ s hr ((placedCheck_none s).mpr hp)]
    exact ih (evalWrites m s) (by rwa [evalWrites_result]) (by rwa [evalWrites_mstate])

/-! ## The sequence -/

/-- The state in which MAT_BUILD selects its mask. -/
def evaluated (s : State) : State := evalAllWrites (placeWrites (frameWrites s))

/-- The mask MAT_BUILD selects (42_matrix_builder.md R216). -/
def selectedMask (s : State) : Nat := selectMask fun m => ((evaluated s).penAt m).toNat

theorem buildWrites_eq (s : State) : buildWrites s = maskWrites (selectedMask s) (evaluated s) := rfl

theorem selectedMask_lt (s : State) : selectedMask s < 8 := (selectMask_firstMinimum _).1

/-- Before the mask: the registers are those of MAT_FRAME and MAT_PLACE, but for the scores. -/
theorem evaluated_registers (s : State) :
    evaluated s =
      { placeWrites (frameWrites s) with pen := (evaluated s).pen, penv := (evaluated s).penv } :=
  evalAllWrites_registers _

theorem evaluated_result (s : State) : (evaluated s).result = s.result := by
  rw [evaluated_registers]
  simp

theorem evaluated_mstate (s : State) : (evaluated s).mstate = .placed := by
  rw [evaluated_registers]
  simp

theorem execAll_evaluated (s : State) (hr : s.result = 0) (hv : versionCheck s = none) :
    execAll ([.matFrame, .matPlace] ++ (List.range 8).map .matEval) s = .next (evaluated s) := by
  have hplace : placeCheck (frameWrites s) = none := (placeCheck_none _).mpr (by simp)
  rw [List.cons_append, execAll, exec_matFrame, runCommand_succeeds _ _ s hr hv, thenRun, List.cons_append, execAll,
    exec_matPlace, runCommand_succeeds _ _ _ (by simpa using hr) hplace, thenRun, List.nil_append]
  exact execAll_matEval _ _ (by simpa using hr) (by simp)

theorem penAt_evaluated (s : State) (j : Nat) (hj : j < 8) : (evaluated s).penAt j = (evaluated s).candidatePenalty j := by
  unfold evaluated
  rw [penAt_evalAllWrites _ j hj, candidatePenalty_evalAllWrites]

/-- The mask of the selected index is scored as it was evaluated (42_matrix_builder.md R224). -/
theorem penAt_buildWrites (s : State) (m : Nat) (hm : m < 8) : (buildWrites s).penAt m = (evaluated s).penAt m := by
  rw [buildWrites_eq, penAt_maskWrites _ _ _ (selectedMask_lt s)]
  split
  case isTrue h => rw [← h, penAt_evaluated s m hm]
  case isFalse h => rfl

theorem setPenv_full : ∀ m < 8, setPenv 0xFF m = 0xFF := by
  decide

theorem penv_buildWrites (s : State) : (buildWrites s).penv = 0xFF := by
  rw [buildWrites_eq, maskWrites_penv, evaluated, penv_evalAllWrites _ (by simp), setPenv_full _ (selectedMask_lt s)]

theorem penSel_buildWrites (s : State) : (buildWrites s).penSel = (buildWrites s).penAt (selectedMask s) := by
  rw [buildWrites_eq, maskWrites_penSel, penAt_maskWrites _ _ _ (selectedMask_lt s), if_pos rfl]

/-- The registers that MAT_BUILD keeps, and those that say what it built (42_matrix_builder.md R224). -/
theorem buildWrites_registers (s : State) :
    (buildWrites s).mver = s.version ∧ (buildWrites s).mlevel = s.level ∧ (buildWrites s).olen = s.olen ∧
      (buildWrites s).ovalid = s.ovalid ∧ (buildWrites s).errcmd = s.errcmd ∧ (buildWrites s).haz = s.haz := by
  rw [buildWrites_eq]
  simp only [maskWrites_mver, maskWrites_mlevel, maskWrites_olen, maskWrites_ovalid, maskWrites_errcmd, maskWrites_haz]
  rw [evaluated_registers]
  simp

/-- Settles O35: MAT_BUILD's writes are those of the sequence, and the selection takes the first minimum. -/
theorem matBuildEqualsSequence : Obligations.MatBuildEqualsSequence := by
  refine ⟨fun s hr hv hv' => ?built, fun s hr hv => ?failed⟩
  case built =>
    have hcheck := versionCheck_passes s ⟨hv, hv'⟩
    obtain ⟨hsel, hmin, hfirst⟩ := selectMask_firstMinimum fun m => ((evaluated s).penAt m).toNat
    obtain ⟨hmver, hmlevel, holen, hovalid, herrcmd, hhaz⟩ := buildWrites_registers s
    refine ⟨evaluated s, buildWrites s, selectedMask s, runCommand_succeeds _ _ s hr hcheck, execAll_evaluated s hr hcheck,
      ?_, hsel, hmin, hfirst, penAt_buildWrites s, hmver, hmlevel, penv_buildWrites s, ?_, penSel_buildWrites s, ?_,
      operandRegs_buildWrites s, holen, hovalid, (buildWrites_result s).trans hr, herrcmd, hhaz, fun a hmat hcw => ?_⟩
    · exact runCommand_succeeds _ _ _ ((evaluated_result s).trans hr) ((placedCheck_none _).mpr (evaluated_mstate s))
    · rw [buildWrites_eq, maskWrites_maskSel]
    · rw [buildWrites_eq, maskWrites_mstate]
    · exact keepsOutside_buildWrites s a (by simp [hmat, hcw])
  case failed => exact runCommand_fails _ _ s _ hr (versionCheck_fails s hv)

end Sys2Proof.Machine
end

section
/-! SUPPORT. What an invariant of the matrix has to meet so that every step keeps it (42_matrix_builder.md R225). -/

namespace Sys2Proof.Machine

/-! ## States with the same symbol -/

/-- `t` has the symbol of `s`: MSTATE, MCFG, MASK_SEL, CWLEN, and the bytes of MAT and CWBUF. -/
structure SameSymbol (s t : State) : Prop where
  mstate : t.mstate = s.mstate
  mver : t.mver = s.mver
  mlevel : t.mlevel = s.mlevel
  msize : t.msize = s.msize
  maskSel : t.maskSel = s.maskSel
  cwlen : t.cwlen = s.cwlen
  bytes : ∀ a, regionOf a = .mat ∨ regionOf a = .cwbuf → t.byteAt a = s.byteAt a

theorem SameSymbol.refl (s : State) : SameSymbol s s := ⟨rfl, rfl, rfl, rfl, rfl, rfl, fun _ _ => rfl⟩

theorem SameSymbol.trans {s t u : State} (h : SameSymbol s t) (h' : SameSymbol t u) : SameSymbol s u :=
  ⟨h'.mstate.trans h.mstate, h'.mver.trans h.mver, h'.mlevel.trans h.mlevel, h'.msize.trans h.msize,
    h'.maskSel.trans h.maskSel, h'.cwlen.trans h.cwlen, fun a ha => (h'.bytes a ha).trans (h.bytes a ha)⟩

/-- The schedule is no part of the symbol. -/
theorem sameSymbol_inputs (s : State) (rest : List Event) : SameSymbol s { s with inputs := rest } :=
  ⟨rfl, rfl, rfl, rfl, rfl, rfl, fun _ _ => rfl⟩

theorem sameSymbol_respond (r : Response) (s : State) : SameSymbol s (respond r s) :=
  ⟨rfl, rfl, rfl, rfl, rfl, rfl, fun _ _ => rfl⟩

theorem sameSymbol_markDone (s : State) : SameSymbol s (markDone s) := ⟨rfl, rfl, rfl, rfl, rfl, rfl, fun _ _ => rfl⟩

theorem sameSymbol_fail (k : ResultKind) (s : State) : SameSymbol s (fail k s) :=
  ⟨rfl, rfl, rfl, rfl, rfl, rfl, fun _ _ => rfl⟩

theorem sameSymbol_clearFailure (s : State) : SameSymbol s (clearFailure s) :=
  ⟨rfl, rfl, rfl, rfl, rfl, rfl, fun _ _ => rfl⟩

theorem sameSymbol_raiseHazard (s : State) : SameSymbol s (raiseHazard s) :=
  ⟨rfl, rfl, rfl, rfl, rfl, rfl, fun _ _ => rfl⟩

/-- A store to another memory keeps the symbol. -/
theorem sameSymbol_storeBytes (r : Region) (hr : r ≠ .mat ∧ r ≠ .cwbuf) (base : Nat) (bs : List Byte) (s : State)
    (hfit : fitsRegion r base bs.length) : SameSymbol s (storeBytes base bs s) := by
  obtain ⟨hmat, hcw⟩ := hr
  refine ⟨rfl, rfl, rfl, rfl, rfl, rfl, fun a ha => keepsOutside_storeBytes r base bs s hfit a ?_⟩
  rw [List.mem_singleton]
  rintro rfl
  exact ha.elim hmat hcw

theorem sameSymbol_evalWrites (m : Nat) (s : State) : SameSymbol s (evalWrites m s) :=
  ⟨rfl, rfl, rfl, rfl, rfl, rfl, fun a _ => byteAt_evalWrites m s a⟩

theorem sameSymbol_evalAllWrites (s : State) : SameSymbol s (evalAllWrites s) :=
  evalAllWrites_keeps (SameSymbol s) (fun m t h => h.trans (sameSymbol_evalWrites m t)) s (SameSymbol.refl s)

theorem sameSymbol_pngWrites (s : State) (h : pngCheck Config.obufSize s = none) : SameSymbol s (pngWrites s) :=
  have hstore := sameSymbol_storeBytes .obuf (by decide) _ _ s (pngBytes_fits s h)
  ⟨rfl, rfl, rfl, rfl, rfl, rfl, fun a ha => (byteAt_pngWrites s a).trans (hstore.bytes a ha)⟩

/-- A register write changes an operand register, or accepts a command (10_state.md R24). -/
theorem sameSymbol_writeReg (v : Word) (s t : State) (r : Reg) (h : writeReg v s r = some t) : SameSymbol s t := by
  cases r with
  | ctrl | version | level | rsSrc | rsDst | colorR | colorG | colorB | cmd =>
    obtain rfl := Option.some.inj h
    exact ⟨rfl, rfl, rfl, rfl, rfl, rfl, fun _ _ => rfl⟩
  | _ => exact nomatch h

theorem sameSymbol_hostWrite32 (a : Nat) (v : Word) (s : State) : SameSymbol s (hostWrite32 a v s).2 := by
  unfold hostWrite32
  cases hw : (regAt a).bind (writeReg v s) with
  | none => exact SameSymbol.refl s
  | some t =>
    obtain ⟨r, -, hr⟩ := Option.bind_eq_some_iff.mp hw
    cases s.busy
    · exact sameSymbol_writeReg v s t r hr
    · exact sameSymbol_raiseHazard s

theorem sameSymbol_hostRead8 (a : Nat) (s : State) : SameSymbol s (hostRead8 a s).2 := by
  unfold hostRead8
  split_ifs <;> exact ⟨rfl, rfl, rfl, rfl, rfl, rfl, fun _ _ => rfl⟩

/-- The host writes DBUF and EBUF alone (20_memory.md R74). -/
theorem sameSymbol_hostWrite8 (a : Nat) (v : Byte) (s : State) : SameSymbol s (hostWrite8 a v s).2 := by
  cases hw : byteWritable a with
  | false => exact hostWrite8_err a v s hw ▸ SameSymbol.refl s
  | true =>
    cases hb : s.busy with
    | true => exact hostWrite8_discarded a v s hb hw ▸ sameSymbol_raiseHazard s
    | false =>
      rw [hostWrite8_stores a v s hb hw]
      have hfit : ∀ r, regionOf a = r → fitsRegion r a [v].length := fun r hr b h1 h2 => by
        obtain rfl : b = a := by rw [List.length_singleton] at h2; omega
        exact hr
      rcases (byteWritable_iff_region a).mp hw with hr | hr
      · exact sameSymbol_storeBytes .dbuf (by decide) a [v] s (hfit _ hr)
      · exact sameSymbol_storeBytes .ebuf (by decide) a [v] s (hfit _ hr)

/-- No host access touches the symbol (20_memory.md R74, R77). -/
theorem sameSymbol_hostAccess (acc : Access) (s : State) : SameSymbol s (hostAccess acc s) := by
  refine SameSymbol.trans (t := (portAccess acc s).2) ?_ (sameSymbol_respond _ _)
  cases acc with
  | read32 a => exact SameSymbol.refl s
  | write32 a v => exact sameSymbol_hostWrite32 _ v s
  | read8 a => exact sameSymbol_hostRead8 _ s
  | write8 a v => exact sameSymbol_hostWrite8 _ v s

/-! ## Invariants of the symbol -/

/-- What makes `P` hold after every step from a legal state in which it holds: it speaks of the symbol alone, asks nothing
without one, and the commands that write the symbol establish or keep it. -/
structure SymbolInvariant (P : State → Prop) : Prop where
  same : ∀ s t, s.legal → SameSymbol s t → P s → P t
  empty : ∀ s, s.mstate = .empty → P s
  frame : ∀ s, s.legal → legalVersion s.versionOperand = true → P (frameWrites s)
  place : ∀ s, s.legal → s.mstate ≠ .empty → P s → P (placeWrites s)
  mask : ∀ s m, m < 8 → s.legal → s.mstate = .placed → P s → P (maskWrites m s)

section

variable {P : State → Prop} (inv : SymbolInvariant P)
include inv

/-- MAT_BUILD establishes what its parts establish and keep (42_matrix_builder.md R224). -/
theorem SymbolInvariant.build (s : State) (hs : s.legal) (hv : legalVersion s.versionOperand = true) :
    P (buildWrites s) := by
  have hframed := legal_frameWrites s hv hs
  have hplaced := legal_placeWrites (frameWrites s) (by simp) hframed
  obtain ⟨hlegal, hphase⟩ := legal_evalAllWrites _ (placeWrites_mstate _) hplaced
  refine inv.mask (evaluated s) _ (selectedMask_lt s) hlegal hphase ?_
  exact inv.same _ _ hplaced (sameSymbol_evalAllWrites _) (inv.place _ hframed (by simp) (inv.frame s hs hv))

/-- A command keeps `P` when its writes do: a skipped or failed one keeps the symbol. -/
theorem SymbolInvariant.runCommand (check : State → Option ResultKind) (writes : State → State) (s t : State)
    (hs : s.legal) (hP : P s) (hwrites : check s = none → P (writes s)) (h : runCommand check writes s = .next t) : P t :=
  runCommand_keeps P check writes s hP (fun k _ => inv.same s _ hs (sameSymbol_fail k s) hP) hwrites t h

theorem SymbolInvariant.exec (i : Instr) (hi : i.wellFormed = true) (s t : State) (hs : s.legal) (hP : P s)
    (h : exec i s = .next t) : P t := by
  cases i with
  | nop => rw [exec_nop] at h; exact inv.runCommand _ _ s t hs hP (fun _ => hP) h
  | clear => exact next_inj h ▸ inv.same s _ hs (sameSymbol_clearFailure s) hP
  | reset => exact next_inj h ▸ inv.empty _ rfl
  | rsEncode n k =>
    exact inv.runCommand _ _ s t hs hP
      (fun hc => inv.same s _ hs (sameSymbol_storeBytes .ebuf (by decide) _ _ s (rsEncode_fits n k s hc)) hP) h
  | eccSymbol =>
    exact inv.runCommand _ _ s t hs hP
      (fun _ => inv.same s _ hs (sameSymbol_storeBytes .ebuf (by decide) _ _ s (eccSymbol_fits s)) hP) h
  | matFrame =>
    exact inv.runCommand _ _ s t hs hP (fun hc => inv.frame s hs ((versionCheck_none s).mp hc)) h
  | matPlace =>
    exact inv.runCommand _ _ s t hs hP (fun hc => inv.place s hs ((placeCheck_none s).mp hc) hP) h
  | matEval m =>
    exact inv.runCommand _ _ s t hs hP (fun _ => inv.same s _ hs (sameSymbol_evalWrites m s) hP) h
  | matMask m =>
    exact inv.runCommand _ _ s t hs hP
      (fun hc => inv.mask s m (of_decide_eq_true hi) hs ((placedCheck_none s).mp hc) hP) h
  | matBuild =>
    exact inv.runCommand _ _ s t hs hP (fun hc => inv.build s hs ((versionCheck_none s).mp hc)) h
  | pngWrite =>
    exact inv.runCommand _ _ s t hs hP (fun hc => inv.same s _ hs (sameSymbol_pngWrites s hc) hP) h

theorem SymbolInvariant.complete (s t : State) (hs : s.legal) (hP : P s) (h : complete s = .next t) : P t := by
  cases hd : decode s.pending with
  | ok i => exact inv.exec i (encodeGivesDecodedWordBack _ i hd).1 s t hs hP (complete_instr s i hd ▸ h)
  | error e => exact inv.runCommand _ _ s t hs hP (fun _ => hP) (complete_illegal s e hd ▸ h)

theorem SymbolInvariant.coreStep (s t : State) (hs : s.legal) (hP : P s) (h : coreStep s = .next t) : P t := by
  cases hb : s.busy with
  | false => exact next_inj ((coreStep_idle s hb).symm.trans h) ▸ hP
  | true =>
    rw [coreStep_busy s hb] at h
    obtain ⟨u, hu, rfl⟩ := mapNext_eq_next _ _ _ h
    exact inv.same u _ (complete_legal s u hs hu) (sameSymbol_markDone u) (inv.complete s u hs hP hu)

theorem SymbolInvariant.handleEvent (e : Event) (s t : State) (hs : s.legal) (hP : P s)
    (h : handleEvent e s = .next t) : P t := by
  cases e with
  | host acc => exact next_inj h ▸ inv.same s _ hs (sameSymbol_hostAccess acc s) hP
  | core => exact inv.coreStep s t hs hP h
  | hardReset => exact next_inj h ▸ inv.empty _ rfl

/-- Every step from a legal state keeps an invariant of the symbol. -/
theorem SymbolInvariant.step (s t : State) (hs : s.legal) (hP : P s) (h : step s = .next t) : P t := by
  rcases step_cases s with ⟨-, hstep⟩ | ⟨e, rest, -, hstep⟩
  · exact inv.coreStep s t hs hP (hstep ▸ h)
  · exact inv.handleEvent e { s with inputs := rest } t hs (inv.same s _ hs (sameSymbol_inputs s rest) hP) (hstep ▸ h)

end

end Sys2Proof.Machine
end

section
/-! SUPPORT. The two invariants of the matrix: function and format modules, and the codewords in the data modules
(42_matrix_builder.md R225). -/

namespace Sys2Proof.Machine

/-! ## The symbol's state -/

/-- From MAT_FRAME on the latched Version is legal and MSIZE its side (10_state.md R41). -/
theorem latched_of_legal (s : State) (hs : s.legal) (hp : s.mstate ≠ .empty) :
    legalVersion s.latchedVersion = true ∧ s.latchedSize = side s.latchedVersion := by
  obtain ⟨-, -, ⟨-, hconfig⟩, -⟩ := hs
  exact hconfig hp

theorem latchedSize_bounds (s : State) (hs : s.legal) (hp : s.mstate ≠ .empty) :
    21 ≤ s.latchedSize ∧ s.latchedSize ≤ 177 := by
  obtain ⟨hv, hsize⟩ := latched_of_legal s hs hp
  rw [hsize]
  exact ⟨side_ge _ ((legalVersion_iff _).mp hv).1, side_le _ hv⟩

theorem SameSymbol.latched {s t : State} (h : SameSymbol s t) :
    t.latchedVersion = s.latchedVersion ∧ t.latchedSize = s.latchedSize ∧ t.latchedLevel = s.latchedLevel := by
  unfold State.latchedVersion State.latchedSize State.latchedLevel
  exact ⟨congrArg _ h.mver, congrArg _ h.msize, congrArg _ h.mlevel⟩

theorem SameSymbol.moduleAt {s t : State} (h : SameSymbol s t) (x y : Nat) (hx : x < 177) (hy : y < 177) :
    t.moduleAt x y = s.moduleAt x y :=
  congrArg QrModule.ofByte (h.bytes _ (.inl (matAddr_window x y (by omega) (by omega)).1))

/-! ## The frame shown by MAT -/

/-- MAT has the frame's `func` bits, blank modules outside the symbol, and the frame's values in the function modules other
than the format modules (42_matrix_builder.md R225 (a), (b)). -/
def State.showsFrame (s : State) : Prop :=
  ∀ x y, x < Config.matDim → y < Config.matDim →
    (s.moduleAt x y).func = (framedModule s.latchedVersion x y).func ∧
      (¬(x < s.latchedSize ∧ y < s.latchedSize) → s.moduleAt x y = QrModule.blank) ∧
      ((framedModule s.latchedVersion x y).func = true → isFormat s.latchedSize x y = false →
        (s.moduleAt x y).dark = (framedModule s.latchedVersion x y).dark)

theorem matrixLegal_iff (s : State) :
    s.matrixLegal ↔ (s.mstate ≠ .empty → s.showsFrame ∧ (s.mstate ≠ .masked → s.formatSpells 0) ∧
      (s.mstate = .masked → s.formatSpells (formatWord s.latchedLevel s.maskSel.toNat))) := Iff.rfl

/-- MAT goes on showing the frame when every `func` bit, every module outside the symbol, and every function module that is no
format module is kept. -/
theorem showsFrame_of_kept (s t : State) (hver : t.latchedVersion = s.latchedVersion)
    (hsize : t.latchedSize = s.latchedSize)
    (hfunc : ∀ x y, x < 177 → y < 177 → (t.moduleAt x y).func = (s.moduleAt x y).func)
    (hout : ∀ x y, x < 177 → y < 177 → ¬(x < s.latchedSize ∧ y < s.latchedSize) → t.moduleAt x y = s.moduleAt x y)
    (hkept : ∀ x y, x < 177 → y < 177 → (s.moduleAt x y).func = true → isFormat s.latchedSize x y = false →
      t.moduleAt x y = s.moduleAt x y) (h : s.showsFrame) : t.showsFrame := by
  intro x y hx hy
  obtain ⟨hf, hblank, hdark⟩ := h x y hx hy
  rw [hver, hsize]
  refine ⟨(hfunc x y hx hy).trans hf, fun hxy => (hout x y hx hy hxy).trans (hblank hxy), fun hfunction hfmt => ?_⟩
  rw [hkept x y hx hy (hf.trans hfunction) hfmt]
  exact hdark hfunction hfmt

theorem framedModule_inside (v x y : Nat) (hx : x < side v) (hy : y < side v) : framedModule v x y = frameModule v x y :=
  if_pos ⟨hx, hy⟩

/-- In the frame the format modules are light (42_matrix_builder.md R196, R198): no earlier clause takes them. -/
theorem frameModule_of_isFormat (v x y : Nat) (hv : 1 ≤ v) (hv' : v ≤ 40) (h : isFormat (side v) x y = true) :
    frameModule v x y = ⟨false, true⟩ := by
  have hside : side v = 4 * v + 17 := rfl
  have hxy := (isFormat_iff (side v) x y (side_ge v hv)).mp h
  have hfinder : finderDist (side v) x y = none := by
    rw [← Option.not_isSome_iff_eq_none, finderDist_isSome]
    omega
  have halign : alignDist v x y = none := by
    rw [← Option.not_isSome_iff_eq_none, alignDist_isSome]
    rintro ⟨c, hc, hdist⟩
    have hbounds := alignCentres_bounds v hv' c hc
    unfold absDiff at hdist
    omega
  unfold frameModule
  dsimp only
  rw [hfinder, halign]
  dsimp only
  rw [if_neg (by omega), if_neg (by omega), if_pos h]

/-- A module the frame calls a function module is none of PlaceOrder's. -/
theorem not_mem_placeOrder_of_func (v x y : Nat) (h : (framedModule v x y).func = true) : (x, y) ∉ placeOrder v := by
  intro hin
  obtain ⟨hx, hy, hf⟩ := (mem_placeOrder v x y).mp hin
  rw [framedModule_inside v x y hx hy, hf] at h
  exact absurd h (by decide)

/-- Each entry of PlaceOrder is a data module of MAT. -/
theorem func_of_mem_placeOrder (s : State) (hs : s.legal) (hp : s.mstate ≠ .empty) (h : s.showsFrame) (x y : Nat)
    (hin : (x, y) ∈ placeOrder s.latchedVersion) : (s.moduleAt x y).func = false := by
  obtain ⟨hx, hy, hf⟩ := (mem_placeOrder _ _ _).mp hin
  have hside := side_le _ (latched_of_legal s hs hp).1
  rw [(h x y (hx.trans_le hside) (hy.trans_le hside)).1, framedModule_inside _ _ _ hx hy, hf]

/-! ## Function and format modules -/

theorem matrixLegal_same (s t : State) (hs : s.legal) (h : SameSymbol s t) (hm : s.matrixLegal) : t.matrixLegal := by
  rw [matrixLegal_iff] at hm ⊢
  intro hp
  rw [h.mstate] at hp ⊢
  obtain ⟨hver, hsize, hlevel⟩ := h.latched
  obtain ⟨hframe, hlight, hspelled⟩ := hm hp
  obtain ⟨hlow, hhigh⟩ := latchedSize_bounds s hs hp
  have hspells : ∀ w, s.formatSpells w → t.formatSpells w := by
    intro w hw c hc
    rw [hsize] at hc
    have hin := isFormat_lt _ _ _ hlow (isFormat_of_mem _ c hc)
    rw [h.moduleAt _ _ (by omega) (by omega)]
    exact hw c hc
  refine ⟨showsFrame_of_kept s t hver hsize (fun x y hx hy => ?_) (fun x y hx hy _ => h.moduleAt x y hx hy)
    (fun x y hx hy _ _ => h.moduleAt x y hx hy) hframe, fun hne => hspells _ (hlight hne), fun heq => ?_⟩
  · rw [h.moduleAt x y hx hy]
  · rw [hlevel, h.maskSel]
    exact hspells _ (hspelled heq)

/-- MAT_FRAME puts the frame in MAT (42_matrix_builder.md R220). -/
theorem matrixLegal_frameWrites (s : State) (hv : legalVersion s.versionOperand = true) : (frameWrites s).matrixLegal := by
  obtain ⟨hlow, hhigh⟩ := (legalVersion_iff _).mp hv
  have hver : (frameWrites s).latchedVersion = s.versionOperand := congrArg BitVec.toNat (frameWrites_mver s)
  have hsize : (frameWrites s).latchedSize = side s.versionOperand :=
    ((configLegal_frameWrites s hv).2 (by simp)).2.trans (congrArg side hver)
  rw [matrixLegal_iff]
  refine fun _ => ⟨fun x y hx hy => ?_, fun _ c hc => ?_, fun hmasked => absurd hmasked (by simp)⟩
  · rw [hver, hsize, moduleAt_frameWrites s x y hx hy]
    exact ⟨rfl, fun hout => if_neg hout, fun _ _ => rfl⟩
  · rw [hsize] at hc
    have hfmt := isFormat_of_mem _ c hc
    have hside := side_le _ hv
    obtain ⟨hx, hy⟩ := isFormat_lt _ _ _ (side_ge _ hlow) hfmt
    rw [moduleAt_frameWrites s _ _ (by omega) (by omega), framedModule_inside _ _ _ hx hy,
      frameModule_of_isFormat _ _ _ hlow hhigh hfmt]
    simp

/-- MAT_PLACE changes data modules and makes the format modules light (42_matrix_builder.md R221). -/
theorem matrixLegal_placeWrites (s : State) (hs : s.legal) (hp : s.mstate ≠ .empty) (hm : s.matrixLegal) :
    (placeWrites s).matrixLegal := by
  obtain ⟨hv, hside⟩ := latched_of_legal s hs hp
  obtain ⟨hframe, -⟩ := (matrixLegal_iff s).mp hm hp
  have hver : (placeWrites s).latchedVersion = s.latchedVersion := congrArg BitVec.toNat (placeWrites_mver s)
  have hsize : (placeWrites s).latchedSize = s.latchedSize := congrArg BitVec.toNat (placeWrites_msize s)
  have hout : ∀ x y, x < 177 → y < 177 → ¬(x < s.latchedSize ∧ y < s.latchedSize) →
      (placeWrites s).moduleAt x y = s.moduleAt x y := fun x y hx _ hxy =>
    moduleAt_placeWrites_beyond s hv x y hx (hside ▸ hxy)
  rw [matrixLegal_iff]
  refine fun _ => ⟨showsFrame_of_kept s _ hver hsize (fun x y hx hy => ?func) hout (fun x y hx hy hfunc hfmt => ?kept) hframe,
    fun _ c hc => ?light, fun hmasked => absurd hmasked (by simp)⟩
  case func =>
    by_cases hxy : x < s.latchedSize ∧ y < s.latchedSize
    · rw [hside] at hxy
      rw [moduleAt_placeWrites s hv x y hxy.1 hxy.2, matGet_place_func _ _ _ x y hxy.1 hxy.2]
    · rw [hout x y hx hy hxy]
  case kept =>
    by_cases hxy : x < s.latchedSize ∧ y < s.latchedSize
    · have hnot := not_mem_placeOrder_of_func _ x y ((hframe x y hx hy).1.symm.trans hfunc)
      rw [hside] at hxy hfmt
      exact moduleAt_placeWrites_kept s hv x y hxy.1 hxy.2 hnot hfmt
    · exact hout x y hx hy hxy
  case light =>
    rw [hsize, hside] at hc
    rw [moduleAt_placeWrites_format s hv c hc]
    simp

/-- MAT_MASK changes data modules and spells the format word (42_matrix_builder.md R223). -/
theorem matrixLegal_maskWrites (s : State) (m : Nat) (hm8 : m < 8) (hs : s.legal) (hp : s.mstate = .placed)
    (hm : s.matrixLegal) : (maskWrites m s).matrixLegal := by
  have hp' : s.mstate ≠ .empty := by simp [hp]
  obtain ⟨hlow, hhigh⟩ := latchedSize_bounds s hs hp'
  obtain ⟨hframe, -⟩ := (matrixLegal_iff s).mp hm hp'
  have hver : (maskWrites m s).latchedVersion = s.latchedVersion := congrArg BitVec.toNat (maskWrites_mver m s)
  have hsize : (maskWrites m s).latchedSize = s.latchedSize := congrArg BitVec.toNat (maskWrites_msize m s)
  have hlevel : (maskWrites m s).latchedLevel = s.latchedLevel := congrArg BitVec.toNat (maskWrites_mlevel m s)
  have hout : ∀ x y, x < 177 → y < 177 → ¬(x < s.latchedSize ∧ y < s.latchedSize) →
      (maskWrites m s).moduleAt x y = s.moduleAt x y := fun x y hx _ hxy =>
    moduleAt_maskWrites_beyond s m x y hhigh hx hxy
  rw [matrixLegal_iff]
  refine fun _ => ⟨showsFrame_of_kept s _ hver hsize (fun x y hx hy => ?func) hout (fun x y hx hy hfunc hfmt => ?kept) hframe,
    fun hne => absurd (maskWrites_mstate m s) hne, fun _ c hc => ?spelled⟩
  case func =>
    by_cases hxy : x < s.latchedSize ∧ y < s.latchedSize
    · rw [moduleAt_maskWrites s m x y hhigh hxy.1 hxy.2, matGet_candidate_func s m x y hxy.1 hxy.2]
    · rw [hout x y hx hy hxy]
  case kept =>
    by_cases hxy : x < s.latchedSize ∧ y < s.latchedSize
    · rw [moduleAt_maskWrites s m x y hhigh hxy.1 hxy.2, matGet_candidate_other s m x y hxy.1 hxy.2 hfmt]
      exact if_pos hfunc
    · exact hout x y hx hy hxy
  case spelled =>
    rw [hsize] at hc
    obtain ⟨hx, hy⟩ := isFormat_lt _ _ _ hlow (isFormat_of_mem _ c hc)
    have hsel : (maskWrites m s).maskSel.toNat = m := by
      rw [maskWrites_maskSel, BitVec.toNat_ofNat]
      exact Nat.mod_eq_of_lt hm8
    rw [moduleAt_maskWrites s m _ _ hhigh hx hy, matGet_candidate_format s m hlow c hc, hlevel, hsel]

/-- Function and format modules are an invariant of the symbol (42_matrix_builder.md R225 (a), (b), (c)). -/
theorem matrixLegal_invariant : SymbolInvariant State.matrixLegal where
  same := matrixLegal_same
  empty _ h := fun hp => absurd h hp
  frame s _ hv := matrixLegal_frameWrites s hv
  place := matrixLegal_placeWrites
  mask := matrixLegal_maskWrites

/-- Settles O55: every step keeps an invariant of the symbol. -/
theorem stepKeepsMatrixLegal : Obligations.StepKeepsMatrixLegal := matrixLegal_invariant.step

/-! ## The codewords in the data modules -/

/-- The bits of CWBUF depend on CWLEN and on the bytes of CWBUF alone. -/
theorem cwbufBit_congr (s t : State) (hlen : t.cwlen = s.cwlen)
    (hbytes : ∀ a, regionOf a = .cwbuf → t.byteAt a = s.byteAt a) (idx : Nat) : t.cwbufBit idx = s.cwbufBit idx := by
  unfold State.cwbufBit
  rw [hlen]
  split
  case isTrue h =>
    have hlt := s.cwlen.isLt
    have hin : regionOf (Config.cwbufBase + idx / 8) = .cwbuf := by
      rw [regionOf_eq_cwbuf]
      unfold Config.cwbufBase
      omega
    rw [State.cwbuf, hbytes _ hin, State.cwbuf]
  case isFalse h => rfl

theorem codewordsHeld_same (s t : State) (hs : s.legal) (h : SameSymbol s t) (hc : s.codewordsHeld) :
    t.codewordsHeld := by
  obtain ⟨hplaced, hmasked⟩ := hc
  have hver : t.latchedVersion = s.latchedVersion := congrArg BitVec.toNat h.mver
  have hbits := cwbufBit_congr s t h.cwlen fun a ha => h.bytes a (.inr ha)
  have hmodule : s.mstate ≠ .empty → ∀ p ∈ (placeOrder s.latchedVersion).zipIdx,
      t.moduleAt p.1.1 p.1.2 = s.moduleAt p.1.1 p.1.2 := by
    intro hp p hin
    obtain ⟨hx, hy, -⟩ := (mem_placeOrder _ _ _).mp (mem_placeOrder_of_zipIdx _ p hin)
    have hside := side_le _ (latched_of_legal s hs hp).1
    exact h.moduleAt _ _ (by omega) (by omega)
  rw [State.codewordsHeld, h.mstate, hver, h.maskSel]
  refine ⟨fun hp p hin => ?_, fun hp p hin => ?_⟩
  · rw [hmodule (by simp [hp]) p hin, hbits]
    exact hplaced hp p hin
  · rw [hmodule (by simp [hp]) p hin, hbits]
    exact hmasked hp p hin

/-- The bits that MAT_PLACE places are those of CWBUF and then 0 (42_matrix_builder.md R207). -/
theorem cwbufBit_placeWrites (s : State) (hs : s.legal) (hp : s.mstate ≠ .empty) (idx : Nat) :
    (placeWrites s).cwbufBit idx = codewordBit s.placedCodewords idx := by
  have hv := (latched_of_legal s hs hp).1
  have hT := totalCodewords_le _ ((legalVersion_iff _).mp hv).2
  have hcwlen : (placeWrites s).cwlen.toNat = totalCodewords s.latchedVersion := by
    rw [placeWrites_cwlen, BitVec.toNat_ofNat]
    exact Nat.mod_eq_of_lt (by omega)
  unfold State.cwbufBit codewordBit
  rw [hcwlen]
  split
  case isTrue h => rw [cwbuf_placeWrites s hv _ (by omega)]
  case isFalse h =>
    rw [List.getD_eq_default _ _ (by rw [placedCodewords_length s hv]; omega)]
    simp

theorem codewordsHeld_placeWrites (s : State) (hs : s.legal) (hp : s.mstate ≠ .empty) :
    (placeWrites s).codewordsHeld := by
  have hver : (placeWrites s).latchedVersion = s.latchedVersion := congrArg BitVec.toNat (placeWrites_mver s)
  refine ⟨fun _ p hin => ?_, fun hmasked => absurd hmasked (by simp)⟩
  rw [hver] at hin
  rw [moduleAt_placeWrites_data s (latched_of_legal s hs hp).1 p hin, cwbufBit_placeWrites s hs hp]

/-- Masking twice gives the placed bits back (42_matrix_builder.md R210, R225). -/
theorem codewordsHeld_maskWrites (s : State) (m : Nat) (hm8 : m < 8) (hs : s.legal) (hp : s.mstate = .placed)
    (hm : s.matrixLegal) (hc : s.codewordsHeld) : (maskWrites m s).codewordsHeld := by
  have hp' : s.mstate ≠ .empty := by simp [hp]
  obtain ⟨hv, hsize⟩ := latched_of_legal s hs hp'
  obtain ⟨-, hhigh⟩ := latchedSize_bounds s hs hp'
  obtain ⟨hframe, -⟩ := (matrixLegal_iff s).mp hm hp'
  obtain ⟨hplaced, -⟩ := hc
  have hver : (maskWrites m s).latchedVersion = s.latchedVersion := congrArg BitVec.toNat (maskWrites_mver m s)
  have hsel : (maskWrites m s).maskSel.toNat = m := by
    rw [maskWrites_maskSel, BitVec.toNat_ofNat]
    exact Nat.mod_eq_of_lt hm8
  have hbits := cwbufBit_congr s (maskWrites m s) (maskWrites_cwlen m s)
    fun a ha => keepsOutside_maskWrites m s a (by simp [ha])
  refine ⟨fun hphase => absurd hphase (by simp), fun _ p hin => ?_⟩
  rw [hver] at hin
  have hmem := mem_placeOrder_of_zipIdx _ p hin
  obtain ⟨hx, hy, -⟩ := (mem_placeOrder _ _ _).mp hmem
  have hfunc := func_of_mem_placeOrder s hs hp' hframe _ _ hmem
  have hfmt := not_isFormat_of_mem_placeOrder _ _ _ hmem
  rw [← hsize] at hx hy hfmt
  rw [hbits, hsel, moduleAt_maskWrites s m _ _ hhigh hx hy, matGet_candidate_other s m _ _ hx hy hfmt, maskModule, hfunc,
    ← hplaced hp p hin]
  simp

/-- With function and format modules right, the codewords are an invariant of the symbol (42_matrix_builder.md R225 (d)). -/
theorem codewordsHeld_invariant : SymbolInvariant fun s => s.matrixLegal ∧ s.codewordsHeld where
  same s t hs h hP := ⟨matrixLegal_same s t hs h hP.1, codewordsHeld_same s t hs h hP.2⟩
  empty s h := ⟨matrixLegal_invariant.empty s h, fun hp => by simp [h] at hp, fun hp => by simp [h] at hp⟩
  frame s hs hv :=
    ⟨matrixLegal_frameWrites s hv, fun hp => absurd hp (by simp), fun hp => absurd hp (by simp)⟩
  place s hs hp hP := ⟨matrixLegal_placeWrites s hs hp hP.1, codewordsHeld_placeWrites s hs hp⟩
  mask s m hm hs hp hP :=
    ⟨matrixLegal_maskWrites s m hm hs hp hP.1, codewordsHeld_maskWrites s m hm hs hp hP.1 hP.2⟩

/-- Settles O56: every step keeps the invariant that holds both parts. -/
theorem stepKeepsCodewordsHeld : Obligations.StepKeepsCodewordsHeld := fun s t hs hm hc h =>
  (codewordsHeld_invariant.step s t hs ⟨hm, hc⟩ h).2

end Sys2Proof.Machine
end

section
/-! SUPPORT. The raw stream of PNG_WRITE: its length, and where the bytes of each pixel stand (43_png_writer.md R261 to R265). -/

namespace Sys2Proof.Machine

/-! ## Lengths -/

theorem imageWidth_eq (n : Nat) : imageWidth n = n + 8 := Nat.one_mul _

theorem colourMode_bpp (s : State) : s.colourMode.bpp = if s.colorEn then 3 else 1 := by
  unfold State.colourMode
  cases s.colorEn <;> rfl

/-- The longest stream of a legal symbol has 102933 bytes (43_png_writer.md R275). -/
theorem pngLength_le (n bpp : Nat) (hn : n ≤ 177) (hbpp : bpp ≤ 3) : pngLength n bpp ≤ 102933 := by
  have hraw : rawLength n bpp ≤ 185 * (1 + 185 * 3) := by
    unfold rawLength
    rw [imageWidth_eq]
    gcongr <;> omega
  unfold pngLength storedCount Config.storedMax
  omega

theorem pngBytes_length_le (s : State) (hs : s.msize.toNat ≤ 177) : s.pngBytes.length ≤ 102933 := by
  rw [pngBytes_length]
  refine pngLength_le _ _ hs ?_
  rw [colourMode_bpp]
  split <;> omega

/-- Settles O37: the lengths of the two streams are R and len(PNG), written out with W and the mode's bytes per pixel. -/
theorem pngStreamHasItsLength : Obligations.PngStreamHasItsLength := by
  rintro s w bpp rfl rfl
  rw [rawStream_length _ _ _ (pixelBytes_colourMode s), pngBytes_length, ← colourMode_bpp, ← imageWidth_eq]
  exact ⟨rfl, rfl, fun hs => pngBytes_length s ▸ pngBytes_length_le s hs⟩

/-! ## Pixels -/

theorem pixelDark_iff (m : Matrix) (n px py : Nat) :
    pixelDark m n px py = true ↔
      4 ≤ px ∧ 4 ≤ py ∧ px - 4 < n ∧ py - 4 < n ∧ (matGet m (px - 4) (py - 4)).dark = true := by
  unfold pixelDark Config.quiet
  split
  case isTrue h => simp [h]
  case isFalse h => exact ⟨fun h' => absurd h' (by decide), fun ⟨h1, h2, h3, h4, _⟩ => absurd ⟨h1, h2, h3, h4⟩ h⟩

/-- Of the modules stored in MAT, a pixel shows those within the side (43_png_writer.md R263). -/
theorem pixelDark_readMatrix (s : State) (n px py : Nat) :
    pixelDark (s.readMatrix n) n px py = true ↔
      4 ≤ px ∧ px < n + 4 ∧ 4 ≤ py ∧ py < n + 4 ∧ (s.moduleAt (px - 4) (py - 4)).dark = true := by
  rw [pixelDark_iff, matGet_readMatrix]
  constructor
  · rintro ⟨hx, hy, hxn, hyn, hdark⟩
    rw [if_pos ⟨hxn, hyn⟩] at hdark
    exact ⟨hx, by omega, hy, by omega, hdark⟩
  · rintro ⟨hx, hxn, hy, hyn, hdark⟩
    have hin : px - 4 < n ∧ py - 4 < n := by omega
    rw [if_pos hin]
    exact ⟨hx, hy, hin.1, hin.2, hdark⟩

theorem getD_default (l : List Byte) (i : Nat) (d d' : Byte) (h : i < l.length) : l.getD i d = l.getD i d' := by
  rw [List.getD_eq_getElem _ _ h, List.getD_eq_getElem _ _ h]

/-- The pixels' bytes of a scanline stand behind its filter byte, in the order of the pixels (43_png_writer.md R264). -/
theorem getD_scanline_pixel (m : Matrix) (n : Nat) (c : ColourMode) (h : ∀ b, (pixelBytes c b).length = c.bpp)
    (py px i : Nat) (hpx : px < n + 8) (hi : i < c.bpp) :
    (scanline m n c py).getD (px * c.bpp + i + 1) 0 = (pixelBytes c (pixelDark m n px py)).getD i 0 := by
  rw [scanline, List.getD_cons_succ]
  exact getD_flatMap_range _ _ _ px i (fun _ => h _) (by rwa [imageWidth_eq]) hi

section
variable (m : Matrix) (n : Nat) (c : ColourMode) (h : ∀ b, (pixelBytes c b).length = c.bpp)
variable (py : Nat) (hpy : py < n + 8)
include h hpy

/-- Byte `j` of scanline `py` in the raw stream, whatever is answered outside the stream (43_png_writer.md R265). -/
theorem getD_rawStream (j : Nat) (d : Byte) (hj : j < 1 + (n + 8) * c.bpp) :
    (rawStream m n c).getD (py * (1 + (n + 8) * c.bpp) + j) d = (scanline m n c py).getD j 0 := by
  rw [← imageWidth_eq] at hpy hj ⊢
  have hlen : py * (1 + imageWidth n * c.bpp) + j < (rawStream m n c).length := by
    rw [rawStream_length m n c h]
    exact piece_index_lt _ _ py j hpy hj
  rw [getD_default _ _ d 0 hlen]
  exact getD_flatMap_range _ _ _ py j (scanline_length m n c h) hpy hj

theorem getD_rawStream_filter (d : Byte) : (rawStream m n c).getD (py * (1 + (n + 8) * c.bpp)) d = 0x00 :=
  getD_rawStream m n c h py hpy 0 d (by omega)

theorem getD_rawStream_pixel (px i : Nat) (d : Byte) (hpx : px < n + 8) (hi : i < c.bpp) :
    (rawStream m n c).getD (py * (1 + (n + 8) * c.bpp) + 1 + px * c.bpp + i) d =
      (pixelBytes c (pixelDark m n px py)).getD i 0 := by
  have hin := piece_index_lt c.bpp (n + 8) px i hpx hi
  rw [← getD_scanline_pixel m n c h py px i hpx hi, ← getD_rawStream m n c h py hpy _ d (by omega)]
  congr 1
  ring

end

/-- The byte `i` of a pixel of a state's image (43_png_writer.md R261, R263). -/
theorem getD_rawStream_state (s : State) (n px py i : Nat) (d : Byte) (hpx : px < n + 8) (hpy : py < n + 8)
    (hi : i < s.colourMode.bpp) :
    (rawStream (s.readMatrix n) n s.colourMode).getD
        (py * (1 + (n + 8) * s.colourMode.bpp) + 1 + px * s.colourMode.bpp + i) d =
      if 4 ≤ px ∧ px < n + 4 ∧ 4 ≤ py ∧ py < n + 4 ∧ (s.moduleAt (px - 4) (py - 4)).dark = true then
        s.colourMode.dark.getD i 0
      else s.colourMode.light.getD i 0 := by
  rw [getD_rawStream_pixel _ n _ (pixelBytes_colourMode s) py hpy px i d hpx hi, pixelBytes]
  simp only [pixelDark_readMatrix]
  split <;> rfl

theorem colourMode_gray (s : State) (h : s.colorEn = false) : s.colourMode = ⟨0, 1, [0x00], [0xFF]⟩ := by
  rw [State.colourMode, h]
  rfl

theorem colourMode_rgb (s : State) (h : s.colorEn = true) :
    s.colourMode = ⟨2, 3, [s.colorR.setWidth 8, s.colorG.setWidth 8, s.colorB.setWidth 8], [0xFF, 0xFF, 0xFF]⟩ := by
  rw [State.colourMode, h]
  rfl

/-- Settles O38: the place of a pixel for every mode, then the bytes of the two modes of a state. -/
theorem rawStreamShowsPixels : Obligations.RawStreamShowsPixels := by
  refine ⟨fun m n c hdark hlight py hpy => ?every, fun s n px py _ hpx hpy => ⟨fun hen => ?gray, fun hen i hi => ?rgb⟩⟩
  case every =>
    have h : ∀ b, (pixelBytes c b).length = c.bpp := Bool.forall_bool.mpr ⟨hlight, hdark⟩
    refine ⟨getD_rawStream_filter m n c h py hpy _, fun px i hpx hi => ?_⟩
    rw [getD_rawStream_pixel m n c h py hpy px i _ hpx hi, pixelBytes]
    simp only [pixelDark_iff]
  case gray =>
    have hpixel := getD_rawStream_state s n px py 0 0x55 hpx hpy (by rw [colourMode_gray s hen]; decide)
    simp only [colourMode_gray s hen] at hpixel ⊢
    have hidx : py * (n + 9) + 1 + px = py * (1 + (n + 8) * 1) + 1 + px * 1 + 0 := by ring
    rw [hidx, hpixel]
    rfl
  case rgb =>
    have hpixel := getD_rawStream_state s n px py i 0x55 hpx hpy (by rwa [colourMode_rgb s hen])
    have hlight : ([0xFF, 0xFF, 0xFF] : List Byte).getD i 0 = 0xFF := by interval_cases i <;> rfl
    simp only [colourMode_rgb s hen, hlight] at hpixel ⊢
    have hidx : py * (3 * n + 25) + 1 + 3 * px + i = py * (1 + (n + 8) * 3) + 1 + px * 3 + i := by ring
    rw [hidx, hpixel]
    simp only [BitVec.setWidth_eq_extractLsb' (show 8 ≤ 32 by decide)]

end Sys2Proof.Machine
end

section
/-! SUPPORT. Reading back what the PNG unit writes: numbers as bytes, stored blocks, the zlib stream (43_png_writer.md R266,
R267), chunks and the file (R270, R274). -/

namespace Sys2Proof.Machine

/-! ## Numbers as bytes -/

/-- The value of two bytes of `littleEndian16` (43_png_writer.md R267). -/
theorem littleEndian16_value (n : Nat) (hn : n < 65536) :
    (BitVec.ofNat 8 n).toNat + 256 * (BitVec.ofNat 8 (n >>> 8)).toNat = n := by
  simp only [BitVec.toNat_ofNat, Nat.shiftRight_eq_div_pow]
  omega

/-- The value of the four bytes of `bigEndian32` (43_png_writer.md R266). -/
theorem bigEndian32_value (n : Nat) (hn : n < 2 ^ 32) :
    16777216 * (BitVec.ofNat 8 (n >>> 24)).toNat + 65536 * (BitVec.ofNat 8 (n >>> 16)).toNat +
      256 * (BitVec.ofNat 8 (n >>> 8)).toNat + (BitVec.ofNat 8 n).toNat = n := by
  simp only [BitVec.toNat_ofNat, Nat.shiftRight_eq_div_pow]
  omega

/-- A number below 256 stands in the last of the four bytes. -/
theorem bigEndian32_small (n : Nat) (hn : n < 256) : bigEndian32 n = [0, 0, 0, BitVec.ofNat 8 n] := by
  have hzero (k : Nat) (hk : 8 ≤ k) : n >>> k = 0 :=
    Nat.shiftRight_eq_zero n k (hn.trans_le (Nat.pow_le_pow_right (n := 2) (by decide) hk))
  rw [bigEndian32, hzero 24 (by decide), hzero 16 (by decide), hzero 8 (by decide)]
  rfl

/-! ## Stored blocks -/

theorem storedPiece_length_le (raw : List Byte) (i : Nat) : (storedPiece raw i).length ≤ 65535 :=
  List.length_take_le _ _

/-- The reader takes one stored block, and goes on to the next unless the block is marked as the last
(43_png_writer.md R267). -/
theorem inflateStored_block (raw : List Byte) (count i fuel : Nat) (rest : List Byte) :
    inflateStored (fuel + 1) (storedBlock raw count i ++ rest) =
      if i + 1 = count then some (storedPiece raw i, rest)
      else (inflateStored fuel rest).map fun r => (storedPiece raw i ++ r.1, r.2) := by
  have hlen := storedPiece_length_le raw i
  unfold storedBlock
  generalize storedPiece raw i = piece at hlen ⊢
  have hcompl : piece.length ^^^ 0xFFFF < 2 ^ 16 := Nat.xor_lt_two_pow (by omega) (by decide)
  have hvalue := littleEndian16_value piece.length (by omega)
  have hcheck := littleEndian16_value (piece.length ^^^ 0xFFFF) hcompl
  simp only [littleEndian16, List.cons_append, List.nil_append, inflateStored, hvalue, hcheck, List.length_append,
    List.take_left, List.drop_left]
  split <;> simp

/-- The reader takes the last `k + 1` stored blocks, which hold the rest of the raw stream. -/
theorem inflateStored_blocks (raw : List Byte) (count : Nat) (hcount : raw.length ≤ Config.storedMax * count)
    (tail : List Byte) (k : Nat) :
    ∀ i fuel, i + k + 1 = count → k < fuel →
      inflateStored fuel ((List.range' i (k + 1)).flatMap (storedBlock raw count) ++ tail) =
        some (raw.drop (Config.storedMax * i), tail) := by
  induction k with
  | zero =>
    intro i fuel hi hfuel
    obtain ⟨fuel, rfl⟩ : ∃ f, fuel = f + 1 := ⟨fuel - 1, by omega⟩
    have hlast : storedPiece raw i = raw.drop (Config.storedMax * i) := by
      refine List.take_of_length_le ?_
      rw [← hi, Nat.mul_succ] at hcount
      rw [List.length_drop]
      omega
    rw [List.range'_one, List.flatMap_singleton, inflateStored_block, if_pos hi, hlast]
  | succ k ih =>
    intro i fuel hi hfuel
    obtain ⟨fuel, rfl⟩ : ∃ f, fuel = f + 1 := ⟨fuel - 1, by omega⟩
    rw [List.range'_succ, List.flatMap_cons, List.append_assoc, inflateStored_block, if_neg (by omega),
      ih (i + 1) fuel (by omega) (by omega), Option.map_some, storedPiece, Nat.mul_succ, ← List.drop_drop,
      List.take_append_drop]

theorem storedCount_pos (n : Nat) (hn : 0 < n) : 0 < storedCount n :=
  Nat.div_pos (by unfold Config.storedMax; omega) (by decide)

/-- The stored blocks of a zlib stream and the checksum behind them (43_png_writer.md R266). -/
def zlibBody (raw : List Byte) : List Byte :=
  (List.range (storedCount raw.length)).flatMap (storedBlock raw (storedCount raw.length)) ++ bigEndian32 (adler32 raw)

theorem zlibStream_eq (raw : List Byte) : zlibStream raw = 0x78 :: 0x01 :: zlibBody raw := List.append_assoc _ _ _

theorem zlibBody_length (raw : List Byte) : (zlibBody raw).length = raw.length + 5 * storedCount raw.length + 4 := by
  have hlen := zlibStream_length raw
  rw [zlibStream_eq, List.length_cons, List.length_cons] at hlen
  omega

/-- The blocks hold the raw stream from its start. -/
theorem inflateStored_zlibBody (raw : List Byte) (hraw : raw ≠ []) :
    inflateStored (zlibBody raw).length (zlibBody raw) = some (raw, bigEndian32 (adler32 raw)) := by
  have hlen := zlibBody_length raw
  obtain ⟨k, hk⟩ := Nat.exists_eq_add_one.mpr (storedCount_pos _ (List.length_pos_iff.mpr hraw))
  have hread := inflateStored_blocks raw _ (storedCount_covers _) (bigEndian32 (adler32 raw)) k 0 (zlibBody raw).length
    (by omega) (by omega)
  rwa [← hk, ← List.range_eq_range', ← zlibBody, Nat.mul_zero, List.drop_zero] at hread

/-- Settles O39: the checksum behind the blocks is that of the data the reader found in them. -/
theorem zlibStreamReadsBack : Obligations.ZlibStreamReadsBack := fun raw hraw => by
  rw [zlibStream_eq]
  simp [zlibRead, inflateStored_zlibBody raw hraw]

/-! ## Chunks and the file -/

/-- The reader takes a length, as many bytes behind the type as it says, and their checksum (43_png_writer.md R270). -/
theorem readChunk_body (body rest : List Byte) (n : Nat) (hn : n < 2 ^ 32) (hbody : body.length = 4 + n) :
    readChunk (bigEndian32 n ++ (body ++ (bigEndian32 (crc32 body).toNat ++ rest))) =
      some ((body.take 4, body.drop 4), rest) := by
  have hvalue := bigEndian32_value n hn
  have hcrc := bigEndian32_length (crc32 body).toNat
  generalize hfield : bigEndian32 (crc32 body).toNat = field at hcrc ⊢
  have hrest : (body ++ (field ++ rest)).drop (n + 8) = rest := by
    rw [show n + 8 = 4 + n + 4 by omega, ← List.drop_drop, List.drop_left' hbody, List.drop_left' hcrc]
  have htype : (body ++ (field ++ rest)).take 4 = body.take 4 := List.take_append_of_le_length (by omega)
  have hdata : ((body ++ (field ++ rest)).drop 4).take n = body.drop 4 := by
    rw [List.drop_append_of_le_length (by omega)]
    exact List.take_left' (by rw [List.length_drop]; omega)
  have hfits : n + 8 ≤ (body ++ (field ++ rest)).length := by
    simp only [List.length_append]
    omega
  simp only [bigEndian32, List.cons_append, List.nil_append, readChunk, hvalue]
  rw [List.drop_left' hbody, List.take_left' hcrc, List.take_left' hbody, if_pos ⟨hfits, hfield.symm⟩, hrest, htype, hdata]

theorem readChunk_chunk (type data rest : List Byte) (ht : type.length = 4) (hd : data.length < 2 ^ 32) :
    readChunk (chunk type data ++ rest) = some ((type, data), rest) := by
  have hread := readChunk_body (type ++ data) rest data.length hd (by rw [List.length_append, ht])
  rw [List.take_left' ht, List.drop_left' ht] at hread
  rw [← hread, chunk]
  simp only [List.append_assoc]

end Sys2Proof.Machine
end

section
/-! SUPPORT. PNG_WRITE: its preconditions, the bytes it leaves in OBUF, and what they depend on (43_png_writer.md R276, R277). -/

namespace Sys2Proof.Machine

/-! ## The preconditions -/

theorem pngCheck_none (s : State) :
    pngCheck Config.obufSize s = none ↔
      s.mstate = .masked ∧ s.coloursLegal = true ∧ s.pngBytes.length ≤ Config.obufSize := by
  rw [pngCheck, firstFailure_eq_none, pngBytes_length]
  simp

theorem legalComponent_iff (c : Word) : legalComponent c = true ↔ c.toNat ≤ 255 := decide_eq_true_iff

theorem coloursLegal_iff (s : State) :
    s.coloursLegal = true ↔
      (s.colorEn = true → s.colorR.toNat ≤ 255 ∧ s.colorG.toNat ≤ 255 ∧ s.colorB.toNat ≤ 255) := by
  rw [State.coloursLegal]
  cases s.colorEn <;> simp [legalComponent_iff, and_assoc]

/-- The kind of the first precondition of PNG_WRITE that does not hold (43_png_writer.md R276). -/
theorem pngCheck_phase (s : State) (hp : s.mstate ≠ .masked) : pngCheck Config.obufSize s = some .noSymbolProduced := by
  simp [pngCheck, hp]

theorem pngCheck_colour (s : State) (hp : s.mstate = .masked) (hc : s.coloursLegal = false) :
    pngCheck Config.obufSize s = some .unexpectedInput := by
  simp [pngCheck, hp, hc]

theorem pngCheck_size (s : State) (hp : s.mstate = .masked) (hc : s.coloursLegal = true)
    (hlen : Config.obufSize < s.pngBytes.length) : pngCheck Config.obufSize s = some .writeError := by
  rw [pngBytes_length] at hlen
  simp [pngCheck, hp, hc, hlen]

/-- The side of a symbol whose MCFG is legal (10_state.md R41). -/
theorem msize_of_configLegal (s : State) (hs : s.configLegal) (hp : s.mstate ≠ .empty) :
    s.msize.toNat = 4 * s.mver.toNat + 17 ∧ s.msize.toNat ≤ 177 := by
  obtain ⟨hv, hsize⟩ := hs.2 hp
  exact ⟨hsize, hsize.trans_le (side_le _ hv)⟩

theorem pngBytes_fit_of_size (s : State) (hs : s.msize.toNat ≤ 177) : s.pngBytes.length ≤ 131072 :=
  (pngBytes_length_le s hs).trans (by decide)

/-! ## The stream in OBUF -/

theorem exec_pngWrite_next (s : State) (hr : s.result = 0) (hp : s.mstate = .masked) (hc : s.coloursLegal = true)
    (hlen : s.pngBytes.length ≤ 131072) : exec .pngWrite s = .next (pngWrites s) :=
  runCommand_succeeds _ _ s hr ((pngCheck_none s).mpr ⟨hp, hc, hlen⟩)

theorem exec_pngWrite_fails (s : State) (k : ResultKind) (hr : s.result = 0) (hk : pngCheck Config.obufSize s = some k) :
    exec .pngWrite s = .next { s with result := k.image, errcmd := s.pending } :=
  runCommand_fails _ _ s k hr hk

/-- OLEN holds the length of every stream that fits OBUF (10_state.md R46). -/
theorem olen_pngWrites (s : State) (hlen : s.pngBytes.length ≤ 131072) :
    (pngWrites s).olen.toNat = s.pngBytes.length := by
  rw [pngWrites_olen, BitVec.toNat_ofNat]
  exact Nat.mod_eq_of_lt (by omega)

theorem obuf_pngWrites (s : State) (i : Nat) (hi : i < s.pngBytes.length) :
    (pngWrites s).obuf i = s.pngBytes.getD i 0 := by
  rw [State.obuf, byteAt_pngWrites, byteAt_storeBytes_inside _ _ _ _ hi]

/-- Settles O40, by the outcomes of the three preconditions. -/
theorem pngWriteStoresStream : Obligations.PngWriteStoresStream := by
  refine ⟨rfl, pngBytes_fit_of_size, fun s hr hp hc hlen => ?stored, fun s hr hp => ?phase, fun s hr hp hen hc => ?colour,
    fun s hr hp hc hlen => ?size⟩
  case stored =>
    refine ⟨pngWrites s, exec_pngWrite_next s hr hp ((coloursLegal_iff s).mpr hc) hlen, rfl, olen_pngWrites s hlen,
      obuf_pngWrites s, fun a ha => ?_⟩
    rw [byteAt_pngWrites]
    exact byteAt_storeBytes_outside _ _ s a ha
  case phase => exact exec_pngWrite_fails s _ hr (pngCheck_phase s hp)
  case colour =>
    have hillegal : s.coloursLegal = false := Bool.eq_false_iff.mpr fun h => hc ((coloursLegal_iff s).mp h hen)
    exact exec_pngWrite_fails s _ hr (pngCheck_colour s hp hillegal)
  case size => exact exec_pngWrite_fails s _ hr (pngCheck_size s hp ((coloursLegal_iff s).mpr hc) hlen)

/-! ## WriteError -/

theorem image_eq_writeError (k : ResultKind) (h : k.image = ResultKind.writeError.image) : k = .writeError := by
  cases k with
  | writeError => rfl
  | _ => exact absurd h (by decide)

theorem zero_ne_writeError : (0 : Word) ≠ ResultKind.writeError.image := by decide

/-- A command raises WriteError only where its check does. -/
theorem runCommand_not_writeError (check : State → Option ResultKind) (writes : State → State) (s : State)
    (hr : s.result = 0) (hcheck : check s ≠ some .writeError) (hwrites : (writes s).result = s.result) (t : State)
    (h : runCommand check writes s = .next t) : t.result ≠ ResultKind.writeError.image := by
  have hstart : s.result ≠ ResultKind.writeError.image := hr ▸ zero_ne_writeError
  refine runCommand_keeps (fun t => t.result ≠ _) check writes s hstart (fun k hk himage => ?_) (fun _ => ?_) t h
  · exact hcheck (image_eq_writeError k himage ▸ hk)
  · rwa [hwrites]

theorem firstFailure_not_writeError (l : List (Bool × ResultKind)) (hl : .writeError ∉ l.map Prod.snd) :
    firstFailure l ≠ some .writeError := fun h => hl (firstFailure_eq_some l _ h)

/-- Of PNG_WRITE's preconditions, the size always holds for a legal MCFG (43_png_writer.md R276). -/
theorem pngCheck_not_writeError (s : State) (hs : s.configLegal) : pngCheck Config.obufSize s ≠ some .writeError := by
  by_cases hp : s.mstate = .masked
  · cases hc : s.coloursLegal with
    | false =>
      rw [pngCheck_colour s hp hc]
      decide
    | true =>
      have hsize := (msize_of_configLegal s hs (by rw [hp]; decide)).2
      rw [(pngCheck_none s).mpr ⟨hp, hc, pngBytes_fit_of_size s hsize⟩]
      decide
  · rw [pngCheck_phase s hp]
    decide

/-- Settles O41: no check but PNG_WRITE's names WriteError, and PNG_WRITE's raises it for no legal symbol. -/
theorem writeErrorCannotHappen : Obligations.WriteErrorCannotHappen := by
  intro i s hr hs
  obtain ⟨t, ht⟩ := exec_next i s
  refine ⟨t, ht, ?_⟩
  cases i with
  | clear => rw [next_inj ht]; exact zero_ne_writeError
  | reset => rw [next_inj ht]; exact zero_ne_writeError
  | nop =>
    rw [exec_nop] at ht
    exact runCommand_not_writeError _ _ s hr (by decide) rfl t ht
  | pngWrite => exact runCommand_not_writeError _ _ s hr (pngCheck_not_writeError s hs) (by simp) t ht
  | matBuild =>
    exact runCommand_not_writeError _ _ s hr (firstFailure_not_writeError _ (by simp)) (buildWrites_result s) t ht
  | rsEncode | eccSymbol | matFrame | matPlace | matEval | matMask =>
    exact runCommand_not_writeError _ _ s hr (firstFailure_not_writeError _ (by simp)) (by simp) t ht

/-! ## What the stream depends on -/

theorem pixelDark_congr (m m' : Matrix) (n px py : Nat)
    (h : ∀ x y, x < n → y < n → (matGet m' x y).dark = (matGet m x y).dark) :
    pixelDark m' n px py = pixelDark m n px py := by
  unfold pixelDark
  split
  case isTrue hin =>
    obtain ⟨-, -, hx, hy⟩ := hin
    exact h _ _ hx hy
  case isFalse => rfl

/-- The stream depends on the dark bits within the side, the side and the mode alone (43_png_writer.md R277). -/
theorem pngStream_congr (m m' : Matrix) (n : Nat) (c : ColourMode)
    (h : ∀ x y, x < n → y < n → (matGet m' x y).dark = (matGet m x y).dark) : pngStream m' n c = pngStream m n c := by
  have hraw : rawStream m' n c = rawStream m n c := by
    have hline (py : Nat) : scanline m' n c py = scanline m n c py := by
      simp only [scanline, pixelDark_congr m m' n _ py h]
    rw [rawStream, funext hline, ← rawStream]
  rw [pngStream, hraw, ← pngStream]

theorem colourMode_congr (s s' : State) (hen : s'.colorEn = s.colorEn)
    (hcol : s.colorEn = true → s'.colorR = s.colorR ∧ s'.colorG = s.colorG ∧ s'.colorB = s.colorB) :
    s'.colourMode = s.colourMode := by
  cases hs : s.colorEn with
  | false => rw [colourMode_gray s hs, colourMode_gray s' (hen.trans hs)]
  | true =>
    obtain ⟨hr, hg, hb⟩ := hcol hs
    rw [colourMode_rgb s hs, colourMode_rgb s' (hen.trans hs), hr, hg, hb]

theorem pngBytes_congr (s s' : State) (hsize : s'.msize = s.msize) (hmode : s'.colourMode = s.colourMode)
    (hdark : ∀ x y, x < s.msize.toNat → y < s.msize.toNat → (s'.moduleAt x y).dark = (s.moduleAt x y).dark) :
    s'.pngBytes = s.pngBytes := by
  rw [State.pngBytes, State.pngBytes, State.latchedSize, State.latchedSize, hsize, hmode]
  refine pngStream_congr _ _ _ _ fun x y hx hy => ?_
  rw [matGet_readMatrix, matGet_readMatrix, if_pos ⟨hx, hy⟩, if_pos ⟨hx, hy⟩, hdark x y hx hy]

/-- Settles O43: both states produce the same stream, which fits OBUF. -/
theorem pngOutputDependsOnInputsAlone : Obligations.PngOutputDependsOnInputsAlone := by
  intro s s' hr hr' hp hp' hs hc hsize hen hcol hdark
  have hmax := (msize_of_configLegal s hs (by rw [hp]; decide)).2
  have hlen := pngBytes_fit_of_size s hmax
  have hbytes := pngBytes_congr s s' hsize (colourMode_congr s s' hen hcol) hdark
  have hc' : s'.coloursLegal = true := by
    rw [coloursLegal_iff] at hc ⊢
    intro hs'
    obtain ⟨hR, hG, hB⟩ := hcol (hen ▸ hs')
    rw [hR, hG, hB]
    exact hc (hen ▸ hs')
  have hlen' : s'.pngBytes.length ≤ 131072 := by rwa [hbytes]
  refine ⟨_, _, exec_pngWrite_next s hr hp hc hlen, exec_pngWrite_next s' hr' hp' hc' hlen', ?_, fun i hi => ?_⟩
  · rw [pngWrites_olen, pngWrites_olen, hbytes]
  · rw [olen_pngWrites s hlen] at hi
    rw [obuf_pngWrites s i hi, obuf_pngWrites s' i (by rwa [hbytes]), hbytes]

end Sys2Proof.Machine
end

section
/-! SUPPORT. The file in OBUF: its bytes read back, the fields of IHDR, and its chunks (43_png_writer.md R269 to R274, R277). -/

namespace Sys2Proof.Machine

/-! ## Runs of bytes -/

/-- A run of stored bytes, read back. -/
theorem bytesAt_storeBytes (base : Nat) (bs : List Byte) (s : State) (i k : Nat) (h : i + k ≤ bs.length) :
    (storeBytes base bs s).bytesAt (base + i) k = (bs.drop i).take k := by
  have hlen : ((storeBytes base bs s).bytesAt (base + i) k).length = k := by simp [State.bytesAt]
  refine List.ext_getElem ?_ fun j hj _ => ?_
  · rw [hlen, List.length_take, List.length_drop]
    omega
  have hjk : j < k := hlen ▸ hj
  simp only [State.bytesAt, List.getElem_map, List.getElem_range, List.getElem_take, List.getElem_drop]
  rw [Nat.add_assoc, byteAt_storeBytes_inside _ _ _ _ (by omega), List.getD_eq_getElem]

theorem bytesAt_pngWrites (s : State) (i k : Nat) (h : i + k ≤ s.pngBytes.length) :
    (pngWrites s).bytesAt (Config.obufBase + i) k = (s.pngBytes.drop i).take k := by
  rw [← bytesAt_storeBytes Config.obufBase s.pngBytes s i k h]
  simp only [State.bytesAt, byteAt_pngWrites]

/-- OBUF[0 .. OLEN-1] after PNG_WRITE is the stream (43_png_writer.md R276). -/
theorem bytesAt_olen_pngWrites (s : State) (hlen : s.pngBytes.length ≤ 131072) :
    (pngWrites s).bytesAt Config.obufBase (pngWrites s).olen.toNat = s.pngBytes := by
  have hread := bytesAt_pngWrites s 0 _ (Nat.zero_add _).le
  rwa [Nat.add_zero, List.drop_zero, List.take_length, ← olen_pngWrites s hlen] at hread

/-! ## IHDR -/

theorem ihdrData_length (w : Nat) (c : ColourMode) : (ihdrData w c).length = 13 := rfl

/-- The 13 bytes of IHDR's data for an image of fewer than 256 pixels on a side (43_png_writer.md R271). -/
theorem ihdrData_small (w : Nat) (hw : w < 256) (c : ColourMode) :
    ihdrData w c = [0, 0, 0, BitVec.ofNat 8 w, 0, 0, 0, BitVec.ofNat 8 w, 8, c.colourType, 0, 0, 0] := by
  rw [ihdrData, bigEndian32_small w hw]
  rfl

/-- IHDR's type and data, which its CRC field covers (43_png_writer.md R270, R271). -/
def ihdrBody (s : State) : List Byte := typeIhdr ++ ihdrData (imageWidth s.latchedSize) s.colourMode

theorem ihdrBody_length (s : State) : (ihdrBody s).length = 17 := rfl

/-- IHDR's type and data stand behind the signature and their length, and the CRC field behind them. -/
theorem drop_pngBytes (s : State) :
    ∃ rest, s.pngBytes.drop 12 = ihdrBody s ++ (bigEndian32 (crc32 (ihdrBody s)).toNat ++ rest) := by
  have hstart : (pngSignature ++ bigEndian32 (ihdrData (imageWidth s.latchedSize) s.colourMode).length).length = 12 := rfl
  refine ⟨chunk typeIdat (zlibStream (rawStream (s.readMatrix s.latchedSize) s.latchedSize s.colourMode)) ++
    chunk typeIend [], ?_⟩
  rw [← List.drop_left' hstart (l₂ := ihdrBody s ++ _)]
  simp only [State.pngBytes, pngStream, chunk, ihdrBody, List.append_assoc]

theorem pngBytes_length_ge (s : State) : 33 ≤ s.pngBytes.length := by
  rw [pngBytes_length, pngLength]
  omega

theorem bytesAt_ihdrBody (s : State) : (pngWrites s).bytesAt (Config.obufBase + 12) 17 = ihdrBody s := by
  obtain ⟨rest, hrest⟩ := drop_pngBytes s
  rw [bytesAt_pngWrites s 12 17 (by have := pngBytes_length_ge s; omega), hrest, List.take_left' (ihdrBody_length s)]

theorem bytesAt_ihdrCrc (s : State) :
    (pngWrites s).bytesAt (Config.obufBase + 29) 4 = bigEndian32 (crc32 (ihdrBody s)).toNat := by
  obtain ⟨rest, hrest⟩ := drop_pngBytes s
  rw [bytesAt_pngWrites s 29 4 (pngBytes_length_ge s), show 29 = 12 + 17 from rfl, ← List.drop_drop, hrest,
    List.drop_left' (ihdrBody_length s), List.take_left' (bigEndian32_length _)]

theorem obuf_ihdrBody (s : State) (j : Nat) (hj : j < 17) : (pngWrites s).obuf (12 + j) = (ihdrBody s).getD j 0 := by
  rw [← bytesAt_ihdrBody, State.bytesAt, getD_map_range _ _ j hj, State.obuf, Nat.add_assoc]

theorem colourMode_colourType (s : State) : s.colourMode.colourType = if s.colorEn then 2 else 0 := by
  unfold State.colourMode
  cases s.colorEn <;> rfl

/-- Settles O42: the bytes of IHDR, and its CRC field behind them. -/
theorem pngHeaderSpellsWidth : Obligations.PngHeaderSpellsWidth := by
  intro s hr hp hs hc
  obtain ⟨hsize, hmax⟩ := msize_of_configLegal s hs (by rw [hp]; decide)
  have hwidth : imageWidth s.latchedSize = 4 * s.mver.toNat + 25 := by
    rw [imageWidth_eq, State.latchedSize, hsize]
  have hbyte := obuf_ihdrBody s
  simp only [ihdrBody, ihdrData_small _ (show imageWidth s.latchedSize < 256 by omega)] at hbyte
  have hlow : (BitVec.ofNat 8 (imageWidth s.latchedSize)).toNat = 4 * s.mver.toNat + 25 := by
    rw [BitVec.toNat_ofNat, hwidth]
    omega
  refine ⟨pngWrites s, exec_pngWrite_next s hr hp hc (pngBytes_fit_of_size s hmax), fun base hbase => ?width,
    hbyte 12 (by decide), (hbyte 13 (by decide)).trans (colourMode_colourType s), hbyte 14 (by decide),
    hbyte 15 (by decide), hbyte 16 (by decide), ?crc⟩
  case width =>
    obtain rfl | rfl : base = 16 ∨ base = 20 := by simpa using hbase
    · exact ⟨hbyte 4 (by decide), hbyte 5 (by decide), hbyte 6 (by decide),
        (congrArg BitVec.toNat (hbyte 7 (by decide))).trans hlow⟩
    · exact ⟨hbyte 8 (by decide), hbyte 9 (by decide), hbyte 10 (by decide),
        (congrArg BitVec.toNat (hbyte 11 (by decide))).trans hlow⟩
  case crc => rw [bytesAt_ihdrCrc, bytesAt_ihdrBody]

/-! ## The chunks -/

theorem readChunks_chunk (fuel : Nat) (type data rest : List Byte) (ht : type.length = 4) (hd : data.length < 2 ^ 32) :
    readChunks (fuel + 1) (chunk type data ++ rest) = (readChunks fuel rest).map ((type, data) :: ·) := by
  have hread := readChunk_chunk type data rest ht hd
  obtain ⟨b, bs, hcons⟩ : ∃ b bs, chunk type data ++ rest = b :: bs := ⟨_, _, rfl⟩
  rw [hcons] at hread ⊢
  simp only [readChunks, hread]

/-- The reader finds the three chunks of a file whose IDAT has a legal length (43_png_writer.md R270, R274). -/
theorem readPng_pngStream (m : Matrix) (n : Nat) (c : ColourMode) (hd : (zlibStream (rawStream m n c)).length < 2 ^ 32) :
    readPng (pngStream m n c) =
      some [(typeIhdr, ihdrData (imageWidth n) c), (typeIdat, zlibStream (rawStream m n c)), (typeIend, [])] := by
  have hstream : pngStream m n c = pngSignature ++ (chunk typeIhdr (ihdrData (imageWidth n) c) ++
      (chunk typeIdat (zlibStream (rawStream m n c)) ++ (chunk typeIend [] ++ []))) := by
    simp only [pngStream, List.append_assoc, List.append_nil]
  have hsig : pngSignature.length = 8 := rfl
  rw [hstream, readPng, List.take_left' hsig, List.drop_left' hsig, if_pos (by rfl),
    readChunks_chunk 2 typeIhdr _ _ rfl (by rw [ihdrData_length]; decide), readChunks_chunk 1 typeIdat _ _ rfl hd,
    readChunks_chunk 0 typeIend [] [] rfl (by decide)]
  rfl

theorem rawStream_ne_nil (s : State) (n : Nat) : rawStream (s.readMatrix n) n s.colourMode ≠ [] := by
  rw [← List.length_pos_iff, rawStream_length _ _ _ (pixelBytes_colourMode s), rawLength, imageWidth_eq]
  exact Nat.mul_pos (by omega) (by omega)

/-- The zlib stream is a part of the file. -/
theorem zlibStream_length_le (s : State) :
    (zlibStream (rawStream (s.readMatrix s.latchedSize) s.latchedSize s.colourMode)).length ≤ s.pngBytes.length := by
  simp only [State.pngBytes, pngStream, chunk, List.length_append]
  omega

/-- Settles O58: OBUF holds the stream, which the reader takes apart, and IDAT's data is a zlib stream. -/
theorem pngFileReadsBack : Obligations.PngFileReadsBack := by
  refine ⟨fun s n hr hp hs hc hn => ?_, by decide +kernel, by decide +kernel⟩
  have hmax := (msize_of_configLegal s hs (by rw [hp]; decide)).2
  have hlen := pngBytes_fit_of_size s hmax
  obtain rfl : s.latchedSize = n := hn.symm
  have hidat : (zlibStream (rawStream (s.readMatrix s.latchedSize) s.latchedSize s.colourMode)).length < 2 ^ 32 :=
    ((zlibStream_length_le s).trans hlen).trans_lt (by decide)
  refine ⟨pngWrites s, _, exec_pngWrite_next s hr hp hc hlen, ?_, zlibStreamReadsBack _ (rawStream_ne_nil s s.latchedSize)⟩
  rw [bytesAt_olen_pngWrites s hlen, State.pngBytes, readPng_pngStream _ _ _ hidat,
    ihdrData_small _ (by rw [imageWidth_eq]; unfold State.latchedSize; omega), imageWidth_eq, colourMode_colourType]
  rfl

end Sys2Proof.Machine
end

section
/-! SUPPORT. The phases of the matrix (70_reset_and_hazards.md R364): a command out of phase fails, and one that succeeds leaves
the phase of the table. -/

namespace Sys2Proof.Machine

/-! ## Out of phase -/

/-- Each command that R364's table restricts has a check that refuses the phases the table leaves out. -/
theorem exec_outOfPhase (i : Instr) (s : State) (hr : s.result = 0) (hp : phaseAllowed i s.mstate = false) :
    exec i s = .next (fail .noSymbolProduced s) := by
  cases i with
  | matPlace =>
    have hempty : s.mstate = .empty := by simpa [phaseAllowed] using hp
    exact runCommand_fails _ _ s _ hr ((placeCheck_some s _).mpr ⟨hempty, rfl⟩)
  | matEval | matMask =>
    have hnotPlaced : s.mstate ≠ .placed := by simpa [phaseAllowed] using hp
    exact runCommand_fails _ _ s _ hr (placedCheck_fails s hnotPlaced)
  | pngWrite =>
    have hnotMasked : s.mstate ≠ .masked := by simpa [phaseAllowed] using hp
    exact runCommand_fails _ _ s _ hr (pngCheck_phase s hnotMasked)
  | nop | clear | reset | rsEncode | eccSymbol | matFrame | matBuild => exact Bool.noConfusion hp

/-! ## In phase -/

/-- The check of a command raises no kind but UnexpectedInput and WriteError: it does not complain about the phase. -/
def passesPhase (check : Option ResultKind) : Prop :=
  ∀ k, check = some k → k = .unexpectedInput ∨ k = .writeError

theorem passesPhase_none : passesPhase none := fun _ hk => nomatch hk

theorem passesPhase_firstFailure (l : List (Bool × ResultKind))
    (hl : ∀ k ∈ l.map Prod.snd, k = .unexpectedInput ∨ k = .writeError) : passesPhase (firstFailure l) :=
  fun k hk => hl k (firstFailure_eq_some l k hk)

theorem passesPhase_versionCheck (s : State) : passesPhase (versionCheck s) :=
  passesPhase_firstFailure _ (by simp)

theorem passesPhase_rsEncodeCheck (n k : Nat) (s : State) : passesPhase (rsEncodeCheck n k s) :=
  passesPhase_firstFailure _ (by simp)

theorem passesPhase_placeCheck (s : State) (hp : s.mstate ≠ .empty) : passesPhase (placeCheck s) := by
  rw [(placeCheck_none s).mpr hp]
  exact passesPhase_none

theorem passesPhase_placedCheck (s : State) (hp : s.mstate = .placed) : passesPhase (placedCheck s) := by
  rw [(placedCheck_none s).mpr hp]
  exact passesPhase_none

/-- On a masked matrix PNG_WRITE's first precondition holds, and the other two give other kinds (43_png_writer.md R276). -/
theorem passesPhase_pngCheck (s : State) (hp : s.mstate = .masked) : passesPhase (pngCheck Config.obufSize s) := by
  rw [pngCheck, firstFailure_cons, if_pos (by simpa using hp)]
  exact passesPhase_firstFailure _ (by simp)

/-- The command did not fail for its phase, and if it succeeded, the phase is now `p`. -/
def leavesPhase (p : Phase) (t : State) : Prop :=
  t.result ≠ ResultKind.noSymbolProduced.image ∧ (t.result = 0 → t.mstate = p)

theorem leavesPhase_of_done (p : Phase) (t : State) (hr : t.result = 0) (hp : t.mstate = p) : leavesPhase p t :=
  ⟨by rw [hr]; decide, fun _ => hp⟩

theorem leavesPhase_fail (p : Phase) (k : ResultKind) (s : State) (hk : k = .unexpectedInput ∨ k = .writeError) :
    leavesPhase p (fail k s) := by
  rw [leavesPhase, fail_result]
  rcases hk with rfl | rfl <;> exact ⟨by decide, fun hdone => absurd hdone (by decide)⟩

/-- A command leaves the phase `p` when its check does not complain about the phase and its writes, which keep RESULT, set or
keep that phase. -/
theorem runCommand_leavesPhase (p : Phase) (check : State → Option ResultKind) (writes : State → State) (s : State)
    (hr : s.result = 0) (hcheck : passesPhase (check s)) (hresult : (writes s).result = s.result)
    (hphase : (writes s).mstate = p) : ∃ t, runCommand check writes s = .next t ∧ leavesPhase p t := by
  cases hc : check s with
  | some k => exact ⟨_, runCommand_fails _ _ s k hr hc, leavesPhase_fail p k s (hcheck k hc)⟩
  | none => exact ⟨_, runCommand_succeeds _ _ s hr hc, leavesPhase_of_done p _ (hresult.trans hr) hphase⟩

theorem buildWrites_mstate (s : State) : (buildWrites s).mstate = .masked := by
  rw [buildWrites_eq, maskWrites_mstate]

/-- In a phase the table allows, a command passes its phase check and leaves the table's phase. -/
theorem exec_inPhase (i : Instr) (s : State) (hr : s.result = 0) (hp : phaseAllowed i s.mstate = true) :
    ∃ t, exec i s = .next t ∧ leavesPhase (phaseAfter i s.mstate) t := by
  cases i with
  | nop => exact ⟨_, exec_nop_next s, leavesPhase_of_done _ _ hr rfl⟩
  | clear => exact ⟨_, exec_clear s, leavesPhase_of_done _ _ rfl rfl⟩
  | reset => exact ⟨_, exec_reset s, leavesPhase_of_done _ _ rfl rfl⟩
  | rsEncode n k =>
    exact runCommand_leavesPhase _ _ _ s hr (passesPhase_rsEncodeCheck n k s) (rsEncodeWrites_result n k s)
      (rsEncodeWrites_mstate n k s)
  | eccSymbol =>
    exact runCommand_leavesPhase _ _ _ s hr (passesPhase_versionCheck s) (eccSymbolWrites_result s)
      (eccSymbolWrites_mstate s)
  | matFrame =>
    exact runCommand_leavesPhase _ _ _ s hr (passesPhase_versionCheck s) (frameWrites_result s) (frameWrites_mstate s)
  | matPlace =>
    have hframe : s.mstate ≠ .empty := by simpa [phaseAllowed] using hp
    exact runCommand_leavesPhase _ _ _ s hr (passesPhase_placeCheck s hframe) (placeWrites_result s) (placeWrites_mstate s)
  | matEval m =>
    have hplaced : s.mstate = .placed := by simpa [phaseAllowed] using hp
    exact runCommand_leavesPhase _ _ _ s hr (passesPhase_placedCheck s hplaced) (evalWrites_result m s)
      ((evalWrites_mstate m s).trans hplaced)
  | matMask m =>
    have hplaced : s.mstate = .placed := by simpa [phaseAllowed] using hp
    exact runCommand_leavesPhase _ _ _ s hr (passesPhase_placedCheck s hplaced) (maskWrites_result m s)
      (maskWrites_mstate m s)
  | matBuild =>
    exact runCommand_leavesPhase _ _ _ s hr (passesPhase_versionCheck s) (buildWrites_result s) (buildWrites_mstate s)
  | pngWrite =>
    have hmasked : s.mstate = .masked := by simpa [phaseAllowed] using hp
    exact runCommand_leavesPhase _ _ _ s hr (passesPhase_pngCheck s hmasked) (pngWrites_result s)
      ((pngWrites_mstate s).trans hmasked)

/-- Settles O36, by the rows of R364's table: out of phase the check fails, in phase the writes leave the table's phase. -/
theorem phaseOrderIsChecked : Obligations.PhaseOrderIsChecked :=
  ⟨exec_outOfPhase, exec_inPhase⟩

end Sys2Proof.Machine
end
